-- ==== Sys2Proof/Word.lean ====
section
/-! DEFINITION. The word types of the BT-Call CORE and the integer arithmetic of spec/00_scope.md rules R10 to R14. -/

namespace Sys2Proof

/-- A byte, `0 .. 255` (R14). -/
abbrev Byte := BitVec 8

/-- One 16-bit element of `DIN` or `DOUT`: a byte or a PCM sample (R27, R32). -/
abbrev Entry := BitVec 16

/-- A 32-bit register, command word or event word. -/
abbrev Word := BitVec 32

/-- A 48-bit signed correlator accumulator, `ACC_BITS` wide (R7, R47). -/
abbrev Acc := BitVec 48

/-- A 2-bit symbol value, which is also a tone index (R162). -/
abbrev Symbol := Fin 4

/-- `zeros(n)`: the list of `n` zero bytes (R14). -/
def zeros (n : Nat) : List Byte := List.replicate n 0

/-- One bit as a number. -/
def bit (b : Bool) : Nat := if b then 1 else 0

/-- `asr(v, n) = floor(v / 2^n)` (R12). -/
def asr (v : Int) (n : Nat) : Int := v / (2 : Int) ^ n

/-- `sdiv(a, b)`: division truncated toward zero (R12). -/
def sdiv (a b : Int) : Int := Int.tdiv a b

end Sys2Proof
end

