-- ==== Sys2Proof/Syntax.lean ====
section
/-! DEFINITION. The 25 commands of the opcode map (spec/30_encoding.md rule R113), one constructor per row of
spec/opcode_table.json. `len` is the field `LEN` of formats LI and LD (R111, R112). -/

namespace Sys2Proof

/-- The three command formats (R111). -/
inductive Format where
  /-- No length; bits 31:8 must be zero. -/
  | Z
  /-- `LEN` is an immediate; `DIN` is not touched. -/
  | LI
  /-- `LEN` counts the operand entries in `DIN`. -/
  | LD
  deriving DecidableEq, Repr

/-- A command (R113). -/
inductive Instr where
  | nop
  | setConfig
  | dioFlush
  | modemReset
  | samplesForBytes (len : Nat)
  | modulate (len : Nat)
  | demodulate (len : Nat)
  | fecEncode (len : Nat)
  | fecDecode (len : Nat)
  | fecEncodedLen (len : Nat)
  | fecDataLen (len : Nat)
  | initializeSession (len : Nat)
  | startServer (len : Nat)
  | startClient (len : Nat)
  | stopSession
  | derivePubkey (len : Nat)
  | sendHangup
  | consumeRemoteHangup
  | hsRead
  | hsWrite (len : Nat)
  | tick
  | feedMicFrame (len : Nat)
  | handleIncomingFrame (len : Nat)
  | generateOutgoingFrame
  | pullSpeakerFrame
  deriving DecidableEq, Repr

/-- The format the opcode fixes (R111, R113). -/
def Instr.format : Instr → Format
  | .nop => .Z
  | .setConfig => .Z
  | .dioFlush => .Z
  | .modemReset => .Z
  | .samplesForBytes _ => .LI
  | .modulate _ => .LD
  | .demodulate _ => .LD
  | .fecEncode _ => .LD
  | .fecDecode _ => .LD
  | .fecEncodedLen _ => .LI
  | .fecDataLen _ => .LI
  | .initializeSession _ => .LD
  | .startServer _ => .LD
  | .startClient _ => .LD
  | .stopSession => .Z
  | .derivePubkey _ => .LD
  | .sendHangup => .Z
  | .consumeRemoteHangup => .Z
  | .hsRead => .Z
  | .hsWrite _ => .LD
  | .tick => .Z
  | .feedMicFrame _ => .LD
  | .handleIncomingFrame _ => .LD
  | .generateOutgoingFrame => .Z
  | .pullSpeakerFrame => .Z

/-- The field `LEN` of a command; 0 for format Z, whose bits 31:8 are zero (R111). -/
def Instr.len : Instr → Nat
  | .nop => 0
  | .setConfig => 0
  | .dioFlush => 0
  | .modemReset => 0
  | .samplesForBytes n => n
  | .modulate n => n
  | .demodulate n => n
  | .fecEncode n => n
  | .fecDecode n => n
  | .fecEncodedLen n => n
  | .fecDataLen n => n
  | .initializeSession n => n
  | .startServer n => n
  | .startClient n => n
  | .stopSession => 0
  | .derivePubkey n => n
  | .sendHangup => 0
  | .consumeRemoteHangup => 0
  | .hsRead => 0
  | .hsWrite n => n
  | .tick => 0
  | .feedMicFrame n => n
  | .handleIncomingFrame n => n
  | .generateOutgoingFrame => 0
  | .pullSpeakerFrame => 0

end Sys2Proof
end

