-- ==== Sys2Proof/WellFormed.lean ====
section
/-! DEFINITION. Which terms of `Instr` an encoding can carry: `LEN` is an unsigned 24-bit field
(spec/30_encoding.md rules R111 and R112). -/

namespace Sys2Proof

/-- `LEN` fits its 24-bit field, `0 .. 16777215` (R111). The one check there is: a command has no other operand field
(log 14). -/
abbrev Instr.WellFormed (i : Instr) : Prop := i.len < 2 ^ 24

end Sys2Proof
end

