-- ==== Sys2Proof/Decode.lean ====
section
/-! DEFINITION. The command decoder and encoder (spec/30_encoding.md rules R111 to R115). Decoding is total on every
32-bit word and rejects by name. -/

namespace Sys2Proof

/-- `OPC = cmd[7:0]` (R111). -/
def opcOf (w : Word) : Byte := w.extractLsb' 0 8

/-- `LEN = zext(cmd[31:8])`, unsigned (R112). -/
def lenOf (w : Word) : Nat := (w.extractLsb' 8 24).toNat

/-- Why a command word is illegal (R114). -/
inductive DecodeError where
  /-- `OPC` is none of the 25 values of R113. -/
  | unassignedOpcode
  /-- The opcode has format Z and one of bits 31:8 is 1. -/
  | nonzeroUpper
  deriving DecidableEq, Repr

/-- A format Z word is legal only with bits 31:8 zero (R114). -/
def decodeZ (len : Nat) (i : Instr) : Except DecodeError Instr :=
  if len = 0 then .ok i else .error .nonzeroUpper

/-- The decoder of R115 on the two fields of a command word. -/
def decodeFields (opc len : Nat) : Except DecodeError Instr :=
  match opc with
  | 0x00 => decodeZ len .nop
  | 0x01 => decodeZ len .setConfig
  | 0x02 => decodeZ len .dioFlush
  | 0x10 => decodeZ len .modemReset
  | 0x11 => .ok (.samplesForBytes len)
  | 0x12 => .ok (.modulate len)
  | 0x13 => .ok (.demodulate len)
  | 0x20 => .ok (.fecEncode len)
  | 0x21 => .ok (.fecDecode len)
  | 0x22 => .ok (.fecEncodedLen len)
  | 0x23 => .ok (.fecDataLen len)
  | 0x30 => .ok (.initializeSession len)
  | 0x31 => .ok (.startServer len)
  | 0x32 => .ok (.startClient len)
  | 0x33 => decodeZ len .stopSession
  | 0x34 => .ok (.derivePubkey len)
  | 0x35 => decodeZ len .sendHangup
  | 0x36 => decodeZ len .consumeRemoteHangup
  | 0x37 => decodeZ len .hsRead
  | 0x38 => .ok (.hsWrite len)
  | 0x39 => decodeZ len .tick
  | 0x40 => .ok (.feedMicFrame len)
  | 0x41 => .ok (.handleIncomingFrame len)
  | 0x42 => decodeZ len .generateOutgoingFrame
  | 0x43 => decodeZ len .pullSpeakerFrame
  | _ => .error .unassignedOpcode

/-- The decoder for the whole command set (R115). -/
def decode (w : Word) : Except DecodeError Instr := decodeFields (opcOf w).toNat (lenOf w)

/-- The opcode of a command (R113). -/
def Instr.opcode : Instr → Nat
  | .nop => 0x00
  | .setConfig => 0x01
  | .dioFlush => 0x02
  | .modemReset => 0x10
  | .samplesForBytes _ => 0x11
  | .modulate _ => 0x12
  | .demodulate _ => 0x13
  | .fecEncode _ => 0x20
  | .fecDecode _ => 0x21
  | .fecEncodedLen _ => 0x22
  | .fecDataLen _ => 0x23
  | .initializeSession _ => 0x30
  | .startServer _ => 0x31
  | .startClient _ => 0x32
  | .stopSession => 0x33
  | .derivePubkey _ => 0x34
  | .sendHangup => 0x35
  | .consumeRemoteHangup => 0x36
  | .hsRead => 0x37
  | .hsWrite _ => 0x38
  | .tick => 0x39
  | .feedMicFrame _ => 0x40
  | .handleIncomingFrame _ => 0x41
  | .generateOutgoingFrame => 0x42
  | .pullSpeakerFrame => 0x43

/-- The command word of a well-formed command, `(LEN << 8) | OPC` (R112). -/
def encode (i : Instr) : Word := BitVec.ofNat 24 i.len ++ BitVec.ofNat 8 i.opcode

/-- The command word that the low `nbits` bits of `w` stand for, every bit above them zero. A command is one 32-bit word
with no byte order (R82, R110), so the word is the number itself (log 17). -/
def tableWord (nbits w : Nat) : Word := BitVec.ofNat 32 (w % 2 ^ nbits)

/-- What the decoder reads from a row of spec/opcode_table.json. -/
def decodeTableWord (nbits w : Nat) : Option Instr :=
  match decode (tableWord nbits w) with
  | .ok i => some i
  | .error _ => none

end Sys2Proof
end

