-- ==== Sys2Proof/Config.lean ====
section
/-! DEFINITION. The fixed constants (spec/00_scope.md rule R7), the open parameters (R8) and the collaborator boundary
(spec/43_session.md rules R262 to R267). A collaborator supplied from outside is an opaque constant: nothing in Lean can
evaluate it, so what is proved holds for every one (log 18). -/

namespace Sys2Proof

/-! ## Fixed constants (R7) -/

/-- `RS_N`: full codeword length. -/
def rsN : Nat := 255
/-- `RS_K`: most data bytes in a codeword. -/
def rsK : Nat := 223
/-- `RS_PAR`: parity bytes. -/
def rsPar : Nat := 32
/-- `RS_T`: byte errors corrected. -/
def rsT : Nat := 16
/-- `KEY_LEN`: bytes in a seed, a public key, a peer key. -/
def keyLen : Nat := 32
/-- `SPS_MAX`: largest legal samples-per-symbol. -/
def spsMax : Nat := 4096
/-- `ENERGY_SHIFT`: right shift applied before squaring. -/
def energyShift : Nat := 16
/-- `TRACK_MIN_SPS`. -/
def trackMinSps : Nat := 16
/-- `TRACK_MIN_CYC`: threshold of the tracking guard. -/
def trackMinCyc : Nat := 2 ^ 34
/-- `LOCK_HI`. -/
def lockHi : Nat := 8
/-- `LOCKQ_MAX`. -/
def lockqMax : Nat := 15
/-- `LOCK_DEC`. -/
def lockDec : Nat := 2
/-- `FRAME_BYTES_MAX`: largest ciphertext or codeword carried by one frame. -/
def frameBytesMax : Nat := 255
/-- `CNT_MAX`: saturation value of every statistics counter. -/
def cntMax : Nat := 2 ^ 32 - 1

/-! ## The collaborator's result shapes (R264 to R267) -/

/-- The session's role: `Server` 0, `Client` 1 (R261). -/
inductive Role where
  | server
  | client
  deriving DecidableEq, Repr, Inhabited

/-- The result of `XHsBegin` and `XHsStep` (R264). -/
inductive HsResult where
  /-- `Continue(ctx, out)`. -/
  | cont (ctx : List Byte) (out : Option (List Byte))
  /-- `Complete(keys, out)`. -/
  | complete (keys : List Byte) (out : Option (List Byte))
  /-- `Fail(reason)`. -/
  | fail (reason : Nat)
  deriving DecidableEq, Repr, Inhabited

/-- The result of `XEncrypt` (R266). -/
inductive EncResult where
  | ok (keys ct : List Byte)
  | fatal
  deriving DecidableEq, Repr, Inhabited

/-- The result of `XDecrypt` (R267). -/
inductive DecResult where
  | ok (keys pt : List Byte)
  | reject (keys : List Byte)
  | fatal
  deriving DecidableEq, Repr, Inhabited

/-! ## The external collaborator: five functions with no body (R262) -/

/-- `XKeypair(seed) -> (sk, pk)` of the external collaborator: `sk` has `SK_BYTES` bytes, `pk` 32 (R263). -/
opaque Config.xKeypair : (skBytes : Nat) → (seed : List Byte) → Vector Byte skBytes × Vector Byte 32

/-- `XHsBegin(role, sk, pk, peer)` of the external collaborator (R264). -/
opaque Config.xHsBegin : Role → (sk pk peer : List Byte) → HsResult

/-- `XHsStep(ctx, msg)` of the external collaborator (R265). -/
opaque Config.xHsStep : (ctx msg : List Byte) → HsResult

/-- `XEncrypt(keys, pt)` of the external collaborator (R266). -/
opaque Config.xEncrypt : (keys pt : List Byte) → EncResult

/-- `XDecrypt(keys, ct)` of the external collaborator (R267). -/
opaque Config.xDecrypt : (keys ct : List Byte) → DecResult

/-! ## Open parameters (R8) -/

/-- Which collaborator is attached to the block's private port (R8, R377; log 2). -/
inductive Collaborator where
  /-- Any collaborator: the five opaque functions above. -/
  | external
  /-- The spec's test double T0 (spec/95_test_vectors.md part 2), the default of R8. -/
  | t0
  /-- T0F: T0 with `XEncrypt` replaced by the constant `Fatal`. -/
  | t0f
  deriving DecidableEq, Repr

/-- The open parameters of the hardware (R8), fixed before reset: no rule writes them (log 1). -/
structure Params where
  /-- `DIN_CAP`, in entries. -/
  dinCap : Nat
  /-- `DOUT_CAP`, in entries. -/
  doutCap : Nat
  /-- `TXQ_DEPTH`, in frames. -/
  txqDepth : Nat
  /-- `RXQ_DEPTH`, in frames. -/
  rxqDepth : Nat
  /-- `EVQ_DEPTH`, in event words. -/
  evqDepth : Nat
  /-- `HS_MSG_MAX`, in bytes. -/
  hsMsgMax : Nat
  /-- `SK_BYTES`. -/
  skBytes : Nat
  /-- `HSCTX_BYTES`. -/
  hsctxBytes : Nat
  /-- `KEYS_BYTES`. -/
  keysBytes : Nat
  /-- `AEAD_OVERHEAD`. -/
  aeadOverhead : Nat
  /-- The five collaborator functions. -/
  collab : Collaborator
  deriving DecidableEq, Repr

/-- The constraints column of R8. -/
abbrev Params.Ok (p : Params) : Prop :=
  255 ≤ p.dinCap ∧ 255 ≤ p.doutCap ∧ 1 ≤ p.txqDepth ∧ 1 ≤ p.rxqDepth ∧ 1 ≤ p.evqDepth ∧
  1 ≤ p.hsMsgMax ∧ p.hsMsgMax ≤ 65535 ∧ 1 ≤ p.skBytes ∧ 1 ≤ p.keysBytes ∧ p.aeadOverhead ≤ 222

/-- The default column of R8: collaborator T0, which sets `AEAD_OVERHEAD = 1`. -/
def Params.defaults : Params where
  dinCap := 4194304
  doutCap := 4194304
  txqDepth := 8
  rxqDepth := 8
  evqDepth := 32
  hsMsgMax := 255
  skBytes := 32
  hsctxBytes := 256
  keysBytes := 64
  aeadOverhead := 1
  collab := .t0

end Sys2Proof
end

