-- ==== Sys2Proof/Machine/State.lean ====
section
/-! DEFINITION. The architectural state of the BT-Call CORE (spec/10_state.md) as plain data, the reasons a step can
stop, and the state after reset (R70). -/

namespace Sys2Proof.Machine

/-- The machine stops with a fault: never. The spec treats no behaviour as stuck (spec/93_implementation_defined.md,
after U13), and a command error is a next state with `ERR` written (R350, R369), so this type has no constructor (log 19).
Safe. -/
inductive Fault
  deriving DecidableEq, Repr

/-- The machine refuses to take a step. -/
inductive Refusal where
  /-- Raised by an arm of `exec` that has no meaning yet. Safe: no next state is claimed. No arm raises it now. -/
  | notModelled (mnemonic : String)
  /-- Raised by `serve` for a bus access that is not an aligned 32-bit access inside `0x000 .. 0x1FF`: "The model treats
  such an access as refused: it is not a step of the machine" (R81, U1; log 6). Safe: no next state is
  claimed. -/
  | illegalAccess (off width : Nat)
  deriving DecidableEq, Repr

/-- One action of the world outside on the block (R17, R23, R390): a host read, a host write, or the reset input.
`off` is a byte offset, `width` the access width in bytes. -/
inductive BusAccess where
  /-- `MemRead(off, width)`. -/
  | read (off width : Nat)
  /-- `MemWrite(off, width, v)`. -/
  | write (off width : Nat) (v : Word)
  /-- The reset step (R390). -/
  | reset
  deriving DecidableEq, Repr

/-- The session states of R55 and R261; values 6 to 15 of the 4-bit register never occur (log 21). -/
inductive SessState where
  | uninitialized
  | idle
  | handshaking
  | established
  | stopping
  | terminated
  deriving DecidableEq, Repr

/-- `TERM_KIND` (R55, R261). -/
inductive TermKind where
  | noTerm
  | normal
  | hangup
  | error
  deriving DecidableEq, Repr

/-- Four like things, one per tone. -/
structure Tones (α : Type) where
  t0 : α
  t1 : α
  t2 : α
  t3 : α
  deriving DecidableEq, Repr

/-- Element `k` of a per-tone register array. -/
def Tones.get {α : Type} (x : Tones α) (k : Symbol) : α :=
  match k with
  | 0 => x.t0
  | 1 => x.t1
  | 2 => x.t2
  | 3 => x.t3

/-- The same function on every tone. -/
def Tones.map {α β : Type} (f : α → β) (x : Tones α) : Tones β :=
  { t0 := f x.t0, t1 := f x.t1, t2 := f x.t2, t3 := f x.t3 }

/-- Tone by tone, a function of two registers. -/
def Tones.zip {α β γ : Type} (f : α → β → γ) (x : Tones α) (y : Tones β) : Tones γ :=
  { t0 := f x.t0 y.t0, t1 := f x.t1 y.t1, t2 := f x.t2 y.t2, t3 := f x.t3 y.t3 }

/-- The same value in all four registers. -/
def Tones.all {α : Type} (a : α) : Tones α := { t0 := a, t1 := a, t2 := a, t3 := a }

/-- Host interface state (R32 to R37). -/
structure HostIf where
  /-- `DIN`, oldest entry first. -/
  din : List Entry
  /-- `DOUT`, oldest entry first. -/
  dout : List Entry
  result0 : Word
  result1 : Word
  /-- `ERR.CODE`. -/
  errCode : Byte
  /-- `ERR.DETAIL`. -/
  errDetail : Byte
  busy : Bool
  /-- `INT_STATUS` bit 8. -/
  cmdErr : Bool
  /-- `INT_STATUS` bit 9. -/
  dinOverflow : Bool
  /-- `INT_STATUS` bit 10. -/
  doutUnderflow : Bool
  /-- `INT_STATUS` bit 11. -/
  evUnderflow : Bool
  /-- `INT_STATUS` bit 12. -/
  cmdOverrun : Bool
  /-- `INT_STATUS` bit 13. -/
  queueDrop : Bool
  intEnable : Word
  deriving DecidableEq, Repr

/-- The shadow configuration `CFG_*` (R40). -/
structure ShadowCfg where
  sampleRate : Word
  /-- UQ16.16 (R43). -/
  symbolRate : Word
  freq : Tones Word
  /-- Bit 0 `FEC_EN`, bit 1 `DEBUG_LOG`. -/
  flags : BitVec 2
  fecStrength : Byte
  codecMode : Word
  hsTimeout : Word
  deriving DecidableEq, Repr

/-- The active configuration `ACT_*` and what is derived from it (R41, R42). -/
structure ActiveCfg where
  sampleRate : Word
  symbolRate : Word
  freq : Tones Word
  fecEn : Bool
  debugLog : Bool
  fecStrength : Byte
  codecMode : Word
  hsTimeout : Word
  cfgValid : Bool
  sps : BitVec 13
  fcw : Tones Word
  trackEn : Bool
  deriving DecidableEq, Repr

/-- Modem state, transmit side (R45). -/
structure ModemTx where
  /-- `PH_TX`. -/
  phase : Word
  symbolsTx : Word
  deriving DecidableEq, Repr

/-- The correlator of one tone (R47). -/
structure Correlator where
  /-- `PH_RX[k]`. -/
  ph : Word
  ia : Acc
  qa : Acc
  ib : Acc
  qb : Acc
  deriving DecidableEq, Repr

/-- Modem state, receive side (R46 to R50). -/
structure ModemRx where
  clk : BitVec 13
  wlen : BitVec 13
  half : BitVec 12
  cor : Tones Correlator
  shreg : Byte
  nsym : BitVec 2
  locked : Bool
  lockq : BitVec 4
  /-- Signed, in samples. -/
  timingErr : BitVec 16
  symbolsRx : Word
  syncLosses : Word
  deriving DecidableEq, Repr

/-- The FEC statistics (R53). -/
structure FecStats where
  encodes : Word
  decodes : Word
  clean : Word
  corrected : Word
  uncorrectable : Word
  deriving DecidableEq, Repr

/-- Session state (R55 to R58). -/
structure Session where
  state : SessState
  role : Role
  termKind : TermKind
  termReason : Byte
  keypairValid : Bool
  sk : List Byte
  pk : List Byte
  peerKey : List Byte
  hsctx : List Byte
  keys : List Byte
  hsOut : List Byte
  hsOutValid : Bool
  hsTimer : Word
  hangupLocalSent : Bool
  hangupRemotePending : Bool
  hangupRemoteLatch : Bool
  deriving DecidableEq, Repr

/-- The pipeline statistics (R59). -/
structure PipeStats where
  framesTx : Word
  framesRx : Word
  framesLost : Word
  deriving DecidableEq, Repr

/-- The queues and their drop counters (R60 to R62), oldest element first. -/
structure Queues where
  txq : List (List Entry)
  txqDrops : Word
  rxq : List (List Byte)
  rxqDrops : Word
  evq : List Word
  evDrops : Word
  deriving DecidableEq, Repr

/-- The whole machine. -/
structure State where
  /-- The open parameters (R8). The model's own field: no rule writes it (log 1). -/
  params : Params
  /-- Accesses the outside world has still to make, in order. The model's own field (log 3). -/
  pending : List BusAccess
  /-- What the most recent access returned to the host. The model's own field (log 5). -/
  rdata : Option Word
  host : HostIf
  cfg : ShadowCfg
  act : ActiveCfg
  tx : ModemTx
  rx : ModemRx
  fec : FecStats
  sess : Session
  pipe : PipeStats
  queues : Queues
  deriving DecidableEq, Repr

/-! ## Reset values (R70, R391) -/

/-- A cleared correlator. -/
def Correlator.zero : Correlator := { ph := 0, ia := 0, qa := 0, ib := 0, qb := 0 }

/-- Host interface after reset (R70). -/
def HostIf.reset : HostIf where
  din := []
  dout := []
  result0 := 0
  result1 := 0
  errCode := 0
  errDetail := 0
  busy := false
  cmdErr := false
  dinOverflow := false
  doutUnderflow := false
  evUnderflow := false
  cmdOverrun := false
  queueDrop := false
  intEnable := 0

/-- Shadow configuration after reset: 0 except `CFG_FEC_STRENGTH = 32` (R70). -/
def ShadowCfg.reset : ShadowCfg where
  sampleRate := 0
  symbolRate := 0
  freq := .all 0
  flags := 0
  fecStrength := 32
  codecMode := 0
  hsTimeout := 0

/-- Active configuration after reset (R70). -/
def ActiveCfg.reset : ActiveCfg where
  sampleRate := 0
  symbolRate := 0
  freq := .all 0
  fecEn := false
  debugLog := false
  fecStrength := 0
  codecMode := 0
  hsTimeout := 0
  cfgValid := false
  sps := 0
  fcw := .all 0
  trackEn := false

/-- Transmit side after reset (R70). -/
def ModemTx.reset : ModemTx := { phase := 0, symbolsTx := 0 }

/-- Receive side after reset (R70). -/
def ModemRx.reset : ModemRx where
  clk := 0
  wlen := 0
  half := 0
  cor := .all .zero
  shreg := 0
  nsym := 0
  locked := false
  lockq := 0
  timingErr := 0
  symbolsRx := 0
  syncLosses := 0

/-- FEC statistics after reset (R70). -/
def FecStats.reset : FecStats where
  encodes := 0
  decodes := 0
  clean := 0
  corrected := 0
  uncorrectable := 0

/-- Session state after reset: `Uninitialized`, every secret zero (R70). -/
def Session.reset (p : Params) : Session where
  state := .uninitialized
  role := .server
  termKind := .noTerm
  termReason := 0
  keypairValid := false
  sk := zeros p.skBytes
  pk := zeros keyLen
  peerKey := zeros keyLen
  hsctx := zeros p.hsctxBytes
  keys := zeros p.keysBytes
  hsOut := []
  hsOutValid := false
  hsTimer := 0
  hangupLocalSent := false
  hangupRemotePending := false
  hangupRemoteLatch := false

/-- Pipeline statistics after reset (R70). -/
def PipeStats.reset : PipeStats := { framesTx := 0, framesRx := 0, framesLost := 0 }

/-- Queues after reset: empty, drop counters 0 (R70). -/
def Queues.reset : Queues where
  txq := []
  txqDrops := 0
  rxq := []
  rxqDrops := 0
  evq := []
  evDrops := 0

/-- The reset state of a block with parameters `p` (R70). -/
def State.resetWith (p : Params) : State where
  params := p
  pending := []
  rdata := none
  host := .reset
  cfg := .reset
  act := .reset
  tx := .reset
  rx := .reset
  fec := .reset
  sess := .reset p
  pipe := .reset
  queues := .reset

/-- The machine right after reset (R70, R391), the open parameters at the default column of R8 (log 1, log 2). -/
def State.reset : State := State.resetWith Params.defaults

end Sys2Proof.Machine
end

