-- ==== Sys2Proof/Machine/Ops.lean ====
section
/-! DEFINITION. The shared operations over the state: saturating counters (spec/00_scope.md rule R13), FIFOs and
drop-oldest queues (R18, R315, R316), events (R21), the outcomes of a command and the one place where a command error is
taken (R19, R350), the modem reset (R180), the wipe (R272), the hardware reset (R390). -/

namespace Sys2Proof.Machine

/-! ## Counters and queues -/

/-- `sat_inc(C, d)`: `min(C + d, CNT_MAX)` (R13). -/
def satInc (c : Word) (d : Nat := 1) : Word := BitVec.ofNat 32 (min (c.toNat + d) cntMax)

/-- The queue after `push_drop_oldest(F, e, depth)` (R18). -/
def pushDropOldest {α : Type} (q : List α) (e : α) (depth : Nat) : List α :=
  if q.length = depth then q.drop 1 ++ [e] else q ++ [e]

/-- Does `push_drop_oldest` drop an element (R18)? -/
def dropsOldest {α : Type} (q : List α) (depth : Nat) : Bool := decide (q.length = depth)

/-- `INT_STATUS.QUEUE_DROP` after a push that may have dropped (R315, R316). -/
def HostIf.noteDrop (h : HostIf) (dropped : Bool) : HostIf := { h with queueDrop := h.queueDrop || dropped }

/-- A drop counter after a push that may have dropped (R315, R316). -/
def countDrop (c : Word) (dropped : Bool) : Word := if dropped then satInc c else c

/-- An event word, `(arg << 8) | code` (R116). -/
def eventWord (code arg : Nat) : Word := BitVec.ofNat 24 arg ++ BitVec.ofNat 8 code

/-- `emit(code, arg)`: append an event word to `EVQ`, dropping the oldest when it is full (R21, R316). -/
def State.emit (s : State) (code arg : Nat) : State :=
  let dropped := dropsOldest s.queues.evq s.params.evqDepth
  { s with
    host := s.host.noteDrop dropped
    queues := { s.queues with
      evq := pushDropOldest s.queues.evq (eventWord code arg) s.params.evqDepth
      evDrops := countDrop s.queues.evDrops dropped } }

/-- Push a finished frame into `TXQ` (R315). -/
def State.pushTxq (s : State) (pcm : List Entry) : State :=
  let dropped := dropsOldest s.queues.txq s.params.txqDepth
  { s with
    host := s.host.noteDrop dropped
    queues := { s.queues with
      txq := pushDropOldest s.queues.txq pcm s.params.txqDepth
      txqDrops := countDrop s.queues.txqDrops dropped } }

/-- Push a received payload into `RXQ` (R315). -/
def State.pushRxq (s : State) (payload : List Byte) : State :=
  let dropped := dropsOldest s.queues.rxq s.params.rxqDepth
  { s with
    host := s.host.noteDrop dropped
    queues := { s.queues with
      rxq := pushDropOldest s.queues.rxq payload s.params.rxqDepth
      rxqDrops := countDrop s.queues.rxqDrops dropped } }

/-! ## Results -/

/-- `RESULT0 <- v`. -/
def State.setResult0 (s : State) (v : Word) : State := { s with host := { s.host with result0 := v } }

/-- `RESULT1 <- v`. -/
def State.setResult1 (s : State) (v : Word) : State := { s with host := { s.host with result1 := v } }

/-- Both result registers cleared, as before every body (R34, R118 step 4). -/
def State.clearResults (s : State) : State := { s with host := { s.host with result0 := 0, result1 := 0 } }

/-- `DIN <- din`. -/
def State.setDin (s : State) (din : List Entry) : State := { s with host := { s.host with din := din } }

/-- Append entries to `DOUT` (R33). -/
def State.pushDout (s : State) (es : List Entry) : State := { s with host := { s.host with dout := s.host.dout ++ es } }

/-- Would `n` more entries overflow `DOUT`? The test of every `CapacityError` (R359). -/
abbrev State.doutLacks (s : State) (n : Nat) : Prop := s.params.doutCap < s.host.dout.length + n

/-! ## Command errors: one shared operation -/

/-- The eleven error classes (R351 to R361). -/
inductive CmdError where
  | config
  | key
  | handshake
  | frame
  | uncorrectableFec
  | sessionState
  | illegalCommand
  | lengthMismatch
  | capacity
  | mailboxBusy
  | fatal
  deriving DecidableEq, Repr

/-- `ERR.CODE` of an error class (R362). -/
def CmdError.code : CmdError → Byte
  | .config => 0x01
  | .key => 0x02
  | .handshake => 0x03
  | .frame => 0x04
  | .uncorrectableFec => 0x05
  | .sessionState => 0x06
  | .illegalCommand => 0x10
  | .lengthMismatch => 0x11
  | .capacity => 0x12
  | .mailboxBusy => 0x13
  | .fatal => 0x14

/-- Taking a command error: `ERR` and `INT_STATUS.CMD_ERR` are written; nothing else is saved, switched or transferred
(R19, R350, R369). -/
def State.takeError (s : State) (e : CmdError) (detail : Byte) : State :=
  { s with host := { s.host with errCode := e.code, errDetail := detail, cmdErr := true } }

/-- The end of a successful command: `ERR <- 0, 0` (R118 step 6). -/
def State.endSuccess (s : State) : State := { s with host := { s.host with errCode := 0, errDetail := 0 } }

/-- How a command body ends (R19). -/
inductive Verdict where
  /-- The rule ran to its end. -/
  | success (s : State)
  /-- `raise E(d)`: what the body changed is discarded. -/
  | raised (e : CmdError) (detail : Byte)
  /-- `report E(d)`: what the body changed is kept. -/
  | reported (s : State) (e : CmdError) (detail : Byte)

/-- The outcome of a body that began in `pre`, the state after R118 step 4 (R19, R118 steps 5 and 6). -/
def Verdict.finish (pre : State) : Verdict → State
  | .success s => s.endSuccess
  | .raised e d => pre.takeError e d
  | .reported s e d => s.takeError e d

/-- Go on with `f` after a part of a body that succeeded; a part that raised or reported ends the command (R19). -/
def Verdict.andThen (v : Verdict) (f : State → State) : Verdict :=
  match v with
  | .success s => .success (f s)
  | .raised e d => .raised e d
  | .reported s e d => .reported s e d

/-! ## Modem reset and wipe -/

/-- A window restarted at its nominal length: correlators, reference phases and `CLK` cleared, `WLEN` and `HALF` from
`ACT_SPS` (R46, R179, R180). -/
def ModemRx.restartWindow (rx : ModemRx) (sps : BitVec 13) : ModemRx :=
  { rx with clk := 0, wlen := sps, half := BitVec.ofNat 12 (sps.toNat / 2), cor := .all .zero }

/-- `rx_realign`: restart the window and the byte assembler, keep the synchroniser (R179). -/
def ModemRx.realign (rx : ModemRx) (sps : BitVec 13) : ModemRx :=
  { rx.restartWindow sps with shreg := 0, nsym := 0 }

/-- The receive side of `modem_reset()`: the counters stay (R180). -/
def ModemRx.modemReset (rx : ModemRx) (sps : BitVec 13) : ModemRx :=
  { rx.realign sps with locked := false, lockq := 0, timingErr := 0 }

/-- `modem_reset()` (R180). -/
def State.modemReset (s : State) : State :=
  { s with tx := { s.tx with phase := 0 }, rx := s.rx.modemReset s.act.sps }

/-- The session part of the wipe: every secret zeroed, mailbox, timer, flags and role cleared (R272). -/
def Session.wipe (x : Session) (p : Params) : Session :=
  { x with
    sk := zeros p.skBytes, pk := zeros keyLen, keypairValid := false
    peerKey := zeros keyLen, hsctx := zeros p.hsctxBytes, keys := zeros p.keysBytes
    hsOut := [], hsOutValid := false, hsTimer := 0
    hangupLocalSent := false, hangupRemotePending := false, hangupRemoteLatch := false
    role := .server }

/-- `wipe()` (R272). -/
def State.wipe (s : State) : State :=
  { s.modemReset with
    sess := s.sess.wipe s.params
    queues := { s.queues with txq := [], rxq := [] }
    host := { s.host with din := [], dout := [] } }

/-- `STATE <- Terminated` with its kind and reason (R274, R275, R290). -/
def State.terminate (s : State) (kind : TermKind) (reason : Byte) : State :=
  { s with sess := { s.sess with state := .terminated, termKind := kind, termReason := reason } }

/-- `hs_fail(reason)` (R274). -/
def State.hsFail (s : State) (reason : Nat) : Verdict :=
  .reported ((s.emit 3 reason).wipe.terminate .error (BitVec.ofNat 8 reason)) .handshake (BitVec.ofNat 8 reason)

/-- `fatal(reason)` (R275). -/
def State.fatal (s : State) (reason : Nat) : Verdict :=
  .reported ((s.emit 7 reason).wipe.terminate .error (BitVec.ofNat 8 reason)) .fatal (BitVec.ofNat 8 reason)

/-! ## Hardware reset -/

/-- The reset step: every piece of state at its reset value (R390); the parameters and what the outside world does next
are not the block's state. -/
def State.hardReset (s : State) : State := { State.resetWith s.params with pending := s.pending }

end Sys2Proof.Machine
end

