-- ==== Sys2Proof/Machine/Operands.lean ====
section
/-! DEFINITION. The operand forms of a command (spec/30_encoding.md rules R111, R112, R118; spec/10_state.md rules R32 to
R34) and the execution sequence of R118, steps 2 to 7, one runner per format. -/

namespace Sys2Proof.Machine

/-- A byte operand: `OPERAND[i][7:0]` (R118). -/
def entryByte (e : Entry) : Byte := e.extractLsb' 0 8

/-- The byte operands of a command (R118). -/
def operandBytes (operand : List Entry) : List Byte := operand.map entryByte

/-- A sample operand: `int16(OPERAND[i])` (R12, R118). -/
def int16 (e : Entry) : Int := e.toInt

/-- A sample result: `u16(v)` (R12, R33). -/
def u16 (v : Int) : Entry := BitVec.ofInt 16 v

/-- A byte result: bits 15:8 zero (R33). -/
def byteEntry (b : Byte) : Entry := b.setWidth 16

/-- A 32-bit result register holding a number modulo 2^32 (R34; log 13). -/
def resultWord (n : Nat) : Word := BitVec.ofNat 32 n

/-- Format Z (R111, R118 steps 4 to 6): no operand. -/
def runZ (body : State → Verdict) (s : State) : Host.Outcome State Fault Refusal :=
  .next ((body s.clearResults).finish s.clearResults)

/-- Format LI (R111, R118 steps 4 to 6): `LEN` is an immediate, `DIN` is neither read nor changed. -/
def runLI (len : Nat) (body : Nat → State → Verdict) (s : State) : Host.Outcome State Fault Refusal :=
  runZ (body len) s

/-- Format LD (R111, R118 steps 2 to 7): `LEN` must equal `count(DIN)`; the operand is all of `DIN`, which is emptied. -/
def runLD (len : Nat) (body : List Entry → State → Verdict) (s : State) : Host.Outcome State Fault Refusal :=
  if len ≠ s.host.din.length then .next (s.takeError .lengthMismatch 0)
  else runZ (body s.host.din) (s.setDin [])

end Sys2Proof.Machine
end

