-- ==== Sys2Proof/Machine/Housekeeping.lean ====
section
/-! DEFINITION. Opcode group `0x0_`: `NOP`, `SET_CONFIG`, `DIO_FLUSH` (spec/40_config.md). -/

namespace Sys2Proof.Machine

/-- `NOP` (R140). -/
def execNop (s : State) : Host.Outcome State Fault Refusal := runZ .success s

/-! ## SET_CONFIG -/

/-- `sps`: `sampleRate / symbolRate` rounded to the nearest integer, halves up; `q` is UQ16.16 (R144). -/
def spsOf (fs q : Word) : Nat := (2 * fs.toNat * 65536 + q.toNat) / (2 * q.toNat)

/-- The frequency control word of a tone (R145). -/
def fcwOf (fs f : Word) : Word := BitVec.ofNat 32 (f.toNat * 2 ^ 32 / fs.toNat)

/-- `dist[k]`: the distance of twice the phase increment from a whole turn (R146). -/
def trackDist (fcw : Word) : Nat :=
  let d := 2 * fcw.toNat % 2 ^ 32
  min d (2 ^ 32 - d)

/-- One tone completes at least four double-frequency cycles in half a symbol (R146). -/
def toneTracks (sps : Nat) (fcw : Word) : Bool := decide (trackMinCyc ≤ trackDist fcw * (sps / 2))

/-- The tracking guard (R146). -/
def trackGuard (sps : Nat) (fcw : Tones Word) : Bool :=
  decide (trackMinSps ≤ sps) && toneTracks sps fcw.t0 && toneTracks sps fcw.t1 && toneTracks sps fcw.t2
    && toneTracks sps fcw.t3

/-- Every frequency positive and the four pairwise different (R143 check 2). -/
def freqsOk (f : Tones Word) : Bool :=
  decide (f.t0 ≠ 0 ∧ f.t1 ≠ 0 ∧ f.t2 ≠ 0 ∧ f.t3 ≠ 0 ∧ f.t0 ≠ f.t1 ∧ f.t0 ≠ f.t2 ∧ f.t0 ≠ f.t3 ∧ f.t1 ≠ f.t2 ∧ f.t1 ≠ f.t3
    ∧ f.t2 ≠ f.t3)

/-- Validation: the detail of the first failing check of R143, or `none`. -/
def ShadowCfg.invalid (c : ShadowCfg) : Option Byte :=
  if c.sampleRate = 0 ∨ c.symbolRate = 0 then some 1
  else if freqsOk c.freq = false then some 2
  else if spsOf c.sampleRate c.symbolRate < 1 ∨ spsMax < spsOf c.sampleRate c.symbolRate then some 3
  else if c.fecStrength ≠ 32 then some 4
  else none

/-- Does the new configuration change a modem parameter (R142)? -/
def modemChanged (c : ShadowCfg) (a : ActiveCfg) : Bool :=
  decide (a.cfgValid = false ∨ c.sampleRate ≠ a.sampleRate ∨ c.symbolRate ≠ a.symbolRate ∨ c.freq ≠ a.freq)

/-- The active configuration a valid shadow configuration gives (R142, R144 to R146). -/
def ShadowCfg.activate (c : ShadowCfg) : ActiveCfg :=
  let sps := spsOf c.sampleRate c.symbolRate
  let fcw := c.freq.map (fcwOf c.sampleRate)
  { sampleRate := c.sampleRate
    symbolRate := c.symbolRate
    freq := c.freq
    fecEn := c.flags.getLsbD 0
    debugLog := c.flags.getLsbD 1
    fecStrength := c.fecStrength
    codecMode := c.codecMode
    hsTimeout := c.hsTimeout
    cfgValid := true
    sps := BitVec.ofNat 13 sps
    fcw := fcw
    trackEn := trackGuard sps fcw }

/-- The body of `SET_CONFIG` (R142). -/
def setConfigBody (s : State) : Verdict :=
  match s.cfg.invalid with
  | some detail => .raised .config detail
  | none =>
    let changed := modemChanged s.cfg s.act
    let s1 : State := { s with act := s.cfg.activate }
    let s2 := if changed then s1.modemReset else s1
    .success ((s2.setResult0 (resultWord (spsOf s.cfg.sampleRate s.cfg.symbolRate))).setResult1 (resultWord (bit changed)))

/-- `SET_CONFIG` (R142). -/
def execSetConfig (s : State) : Host.Outcome State Fault Refusal := runZ setConfigBody s

/-! ## DIO_FLUSH -/

/-- The body of `DIO_FLUSH` (R148). -/
def dioFlushBody (s : State) : Verdict :=
  .success
    { s with host := { s.host with
        result0 := resultWord s.host.din.length
        result1 := resultWord s.host.dout.length
        din := []
        dout := [] } }

/-- `DIO_FLUSH` (R148). -/
def execDioFlush (s : State) : Host.Outcome State Fault Refusal := runZ dioFlushBody s

end Sys2Proof.Machine
end

