-- ==== Sys2Proof/Machine/Galois.lean ====
section
/-! DEFINITION. The field GF(2^8) of the codec, its tables, and the generator polynomial (spec/42_fec.md rules R211 to
R213). -/

namespace Sys2Proof.Machine

/-- `xtime(a)`: multiplication by `z` modulo `z^8 + z^4 + z^3 + z^2 + 1` (R211). -/
def xtime (a : Byte) : Byte := (a <<< 1) ^^^ (if a.getLsbD 7 then 0x1D else 0)

/-- The xor of `xtime^i(a)` over the set bits `i` of the low `n` bits of `b` (R211). -/
def gmulBits : Nat → Byte → Byte → Byte
  | 0, _, _ => 0
  | n + 1, a, b => (if b.getLsbD 0 then a else 0) ^^^ gmulBits n (xtime a) (b >>> 1)

/-- `gmul(a, b)`, the bit-level definition (R211). -/
def gmul (a b : Byte) : Byte := gmulBits 8 a b

/-- `EXP[0..127]`, sixteen entries a row (R212). -/
def expLow : List (List Nat) :=
  [[1, 2, 4, 8, 16, 32, 64, 128, 29, 58, 116, 232, 205, 135, 19, 38],
   [76, 152, 45, 90, 180, 117, 234, 201, 143, 3, 6, 12, 24, 48, 96, 192],
   [157, 39, 78, 156, 37, 74, 148, 53, 106, 212, 181, 119, 238, 193, 159, 35],
   [70, 140, 5, 10, 20, 40, 80, 160, 93, 186, 105, 210, 185, 111, 222, 161],
   [95, 190, 97, 194, 153, 47, 94, 188, 101, 202, 137, 15, 30, 60, 120, 240],
   [253, 231, 211, 187, 107, 214, 177, 127, 254, 225, 223, 163, 91, 182, 113, 226],
   [217, 175, 67, 134, 17, 34, 68, 136, 13, 26, 52, 104, 208, 189, 103, 206],
   [129, 31, 62, 124, 248, 237, 199, 147, 59, 118, 236, 197, 151, 51, 102, 204]]

/-- `EXP[128..254]`, sixteen entries a row (R212). -/
def expHigh : List (List Nat) :=
  [[133, 23, 46, 92, 184, 109, 218, 169, 79, 158, 33, 66, 132, 21, 42, 84],
   [168, 77, 154, 41, 82, 164, 85, 170, 73, 146, 57, 114, 228, 213, 183, 115],
   [230, 209, 191, 99, 198, 145, 63, 126, 252, 229, 215, 179, 123, 246, 241, 255],
   [227, 219, 171, 75, 150, 49, 98, 196, 149, 55, 110, 220, 165, 87, 174, 65],
   [130, 25, 50, 100, 200, 141, 7, 14, 28, 56, 112, 224, 221, 167, 83, 166],
   [81, 162, 89, 178, 121, 242, 249, 239, 195, 155, 43, 86, 172, 69, 138, 9],
   [18, 36, 72, 144, 61, 122, 244, 245, 247, 243, 251, 235, 203, 139, 11, 22],
   [44, 88, 176, 125, 250, 233, 207, 131, 27, 54, 108, 216, 173, 71, 142]]

/-- The table of powers of `alpha`, `EXP[0..254]` (R212). -/
def expRows : List (List Nat) := expLow ++ expHigh

/-- `EXP[i]` for `i` in `0 .. 254` (R212). -/
def expTab (i : Nat) : Byte := BitVec.ofNat 8 ((expRows.getD (i / 16) []).getD (i % 16) 0)

/-- `LOG[a]` for `a` in `1 .. 255`: the `i` with `EXP[i] = a` (R212). No rule uses `LOG[0]`. -/
def logTab (a : Byte) : Nat := expRows.flatten.findIdx (fun e => e == a.toNat)

/-- `apow(i) = EXP[i mod 255]` for any integer `i` (R212). -/
def apow (i : Int) : Byte := expTab (i % 255).toNat

/-- `ginv(a)`, for `a` not 0 (R212). -/
def ginv (a : Byte) : Byte := expTab ((255 - logTab a) % 255)

/-- `gdiv(a, b)`, for `b` not 0 (R212). -/
def gdiv (a b : Byte) : Byte := gmul a (ginv b)

/-- The table form of `gmul` (R212); it equals the bit-level form the model computes with. -/
def gmulTable (a b : Byte) : Byte :=
  if a = 0 ∨ b = 0 then 0 else expTab ((logTab a + logTab b) % 255)

/-- The generator coefficients `G[0..32]`, `G[j]` of `x^j` (R213). -/
def genPoly : List Byte :=
  [0x58, 0xac, 0x37, 0x8e, 0x14, 0xfd, 0x8a, 0x18, 0xb9, 0xb3, 0x2f,
   0x94, 0xe4, 0xfd, 0x37, 0x3b, 0x0c, 0xe1, 0xc5, 0xb0, 0x9d, 0x21,
   0x21, 0xa2, 0xc2, 0x10, 0x7e, 0x36, 0xae, 0x34, 0x40, 0x74, 0x01]

end Sys2Proof.Machine
end

