-- ==== Sys2Proof/Machine/Fec.lean ====
section
/-! DEFINITION. The Reed-Solomon RS(255,223) codec (spec/42_fec.md): encoder (R216), decoder (R220 to R226) and the
commands of opcode group `0x2_`. -/

namespace Sys2Proof.Machine

/-! ## Encoder -/

/-- `G[31] .. G[0]`, the order in which the encoder's parity register meets the generator (R213, R216). -/
def genTaps : List Byte := (genPoly.take rsPar).reverse

/-- One data byte into the parity register (R216). -/
def parityStep (par : List Byte) (d : Byte) : List Byte :=
  let fb := d ^^^ par.headD 0
  List.zipWith (fun p g => p ^^^ gmul fb g) (par.drop 1 ++ [0]) genTaps

/-- The 32 parity bytes of `d` (R216). -/
def rsParity (d : List Byte) : List Byte := d.foldl parityStep (zeros rsPar)

/-- `rs_encode(d)`: the data bytes followed by their parity (R216). -/
def rsEncode (d : List Byte) : List Byte := d ++ rsParity d

/-! ## Decoder -/

/-- `R(x)` by Horner's rule, the first byte the highest-degree coefficient (R214, R220; log 22). -/
def hornerEval (r : List Byte) (x : Byte) : Byte := r.foldl (fun y b => gmul y x ^^^ b) 0

/-- The 32 syndromes `S[j] = R(alpha^j)` (R220). -/
def syndromes (r : List Byte) : List Byte := (List.range rsPar).map (fun j => hornerEval r (apow j))

/-- The value at `x` of the polynomial whose coefficient of `x^i` is element `i` (R222, R224). -/
def polyEval (p : List Byte) (x : Byte) : Byte := p.foldr (fun c acc => c ^^^ gmul acc x) 0

/-- The xor of a list of bytes. -/
def xorAll (l : List Byte) : Byte := l.foldl (· ^^^ ·) 0

/-- The registers of the error locator (R221). -/
structure LocatorRegs where
  /-- `Lam[0..32]`. -/
  lam : List Byte
  /-- `B[0..32]`. -/
  bpol : List Byte
  /-- `L`. -/
  len : Nat
  m : Nat
  b : Byte
  deriving DecidableEq, Repr

/-- `Lam`, `B`, `L`, `m`, `b` before the first step (R221). -/
def locatorInit : LocatorRegs where
  lam := 1 :: zeros rsPar
  bpol := 1 :: zeros rsPar
  len := 0
  m := 1
  b := 1

/-- The discrepancy of step `r` (R221). -/
def discrepancy (syn : List Byte) (st : LocatorRegs) (r : Nat) : Byte :=
  syn.getD r 0 ^^^ xorAll ((List.range st.len).map (fun i => gmul (st.lam.getD (i + 1) 0) (syn.getD (r - (i + 1)) 0)))

/-- `Lam[i+m] <- Lam[i+m] xor gmul(c, B[i])` for `i` in `0 .. 32-m` (R221). -/
def addShifted (lam bpol : List Byte) (m : Nat) (c : Byte) : List Byte :=
  (List.range (rsPar + 1)).map
    (fun k => if m ≤ k then lam.getD k 0 ^^^ gmul c (bpol.getD (k - m) 0) else lam.getD k 0)

/-- One step of the error locator (R221). -/
def locatorStep (syn : List Byte) (st : LocatorRegs) (r : Nat) : LocatorRegs :=
  let d := discrepancy syn st r
  if d = 0 then { st with m := st.m + 1 }
  else
    let lam := addShifted st.lam st.bpol st.m (gdiv d st.b)
    if 2 * st.len ≤ r then { lam := lam, bpol := st.lam, len := r + 1 - st.len, m := 1, b := d }
    else { st with lam := lam, m := st.m + 1 }

/-- The error locator after its 32 steps (R221). -/
def errorLocator (syn : List Byte) : LocatorRegs := (List.range rsPar).foldl (locatorStep syn) locatorInit

/-- The root search: the error positions `p` in `0 .. 254`, ascending (R222). `lam` holds `Lam[0..L]`. -/
def errorPositions (lam : List Byte) : List Nat :=
  (List.range rsN).filter (fun p => polyEval lam (apow (-(p : Int))) == 0)

/-- The evaluator polynomial `Om[0..31]` (R224). `lam` holds `Lam[0..L]`. -/
def evaluatorPoly (syn lam : List Byte) : List Byte :=
  (List.range rsPar).map
    (fun i => xorAll ((List.range (min i (lam.length - 1) + 1)).map (fun j => gmul (lam.getD j 0) (syn.getD (i - j) 0))))

/-- The formal derivative `LamD`: element `i` is the coefficient of `x^i`, which is `Lam[i+1]` for even `i` (R224). -/
def derivPoly (lam : List Byte) : List Byte :=
  (List.range (lam.length - 1)).map (fun i => if i % 2 = 0 then lam.getD (i + 1) 0 else 0)

/-- The error magnitude `e[p]` (R224). -/
def errorMagnitude (om lamD : List Byte) (p : Nat) : Byte :=
  let xi := apow (-(p : Int))
  gmul (apow p) (gdiv (polyEval om xi) (polyEval lamD xi))

/-- `r[n-1-p] <- r[n-1-p] xor e[p]` (R225). -/
def correctAt (om lamD : List Byte) (r : List Byte) (p : Nat) : List Byte :=
  let i := r.length - 1 - p
  r.set i (r.getD i 0 ^^^ errorMagnitude om lamD p)

/-- The result of `rs_decode` (R226). -/
inductive FecResult where
  /-- The count of corrected bytes and the corrected word. -/
  | corrected (count : Nat) (word : List Byte)
  | uncorrectable
  deriving DecidableEq, Repr

/-- `Uncorrectable`, by the three tests of R223, on `L`, the positions and the length of the word. -/
def locatorFails (len : Nat) (positions : List Nat) (n : Nat) : Bool :=
  decide (rsT < len) || decide (positions.length ≠ len) || positions.any (fun p => decide (n ≤ p))

/-- `rs_decode(r)` (R226). -/
def rsDecode (r : List Byte) : FecResult :=
  let syn := syndromes r
  if syn.all (· == 0) then .corrected 0 r
  else
    let st := errorLocator syn
    let lam := st.lam.take (st.len + 1)
    let pos := errorPositions lam
    if locatorFails st.len pos r.length then .uncorrectable
    else .corrected st.len (pos.foldl (correctAt (evaluatorPoly syn lam) (derivPoly lam)) r)

/-! ## Statistics (R227, R252) -/

/-- `FEC_ENCODES` counts an encode (R217, R320). -/
def State.countEncode (s : State) : State := { s with fec := { s.fec with encodes := satInc s.fec.encodes } }

/-- `FEC_DECODES` counts a decode (R227, R325). -/
def State.countDecode (s : State) : State := { s with fec := { s.fec with decodes := satInc s.fec.decodes } }

/-- `FEC_UNCORRECTABLE` counts a failed decode (R227, R325). -/
def State.countUncorrectable (s : State) : State :=
  { s with fec := { s.fec with uncorrectable := satInc s.fec.uncorrectable } }

/-- `FEC_CLEAN` and `FEC_CORRECTED` after a decode that corrected `cnt` bytes (R227, R325). -/
def State.countCorrected (s : State) (cnt : Nat) : State :=
  { s with fec := { s.fec with
      clean := if cnt = 0 then satInc s.fec.clean else s.fec.clean
      corrected := satInc s.fec.corrected cnt } }

/-! ## Commands -/

/-- The body of `FEC_ENCODE` (R217). -/
def fecEncodeBody (operand : List Entry) (s : State) : Verdict :=
  if rsK < operand.length then .raised .config 5
  else if s.doutLacks (operand.length + rsPar) then .raised .capacity 0
  else
    .success (((s.pushDout ((rsEncode (operandBytes operand)).map byteEntry)).countEncode).setResult0
      (resultWord (operand.length + rsPar)))

/-- `FEC_ENCODE` (R217). -/
def execFecEncode (len : Nat) (s : State) : Host.Outcome State Fault Refusal := runLD len fecEncodeBody s

/-- The body of `FEC_DECODE` (R227). -/
def fecDecodeBody (operand : List Entry) (s : State) : Verdict :=
  if operand.length < rsPar ∨ rsN < operand.length then .raised .frame 1
  else if s.doutLacks operand.length then .raised .capacity 0
  else
    match rsDecode (operandBytes operand) with
    | .uncorrectable => .reported s.countDecode.countUncorrectable .uncorrectableFec 0
    | .corrected cnt cw =>
      .success (((s.countDecode.countCorrected cnt).pushDout (cw.map byteEntry)).setResult0 (resultWord cnt))

/-- `FEC_DECODE` (R227). -/
def execFecDecode (len : Nat) (s : State) : Host.Outcome State Fault Refusal := runLD len fecDecodeBody s

/-- The body of `FEC_ENCODED_LEN` (R250). -/
def fecEncodedLenBody (len : Nat) (s : State) : Verdict := .success (s.setResult0 (resultWord (len + rsPar)))

/-- `FEC_ENCODED_LEN` (R250). -/
def execFecEncodedLen (len : Nat) (s : State) : Host.Outcome State Fault Refusal := runLI len fecEncodedLenBody s

/-- The body of `FEC_DATA_LEN`: `(LEN - 32) mod 2^32` (R251). -/
def fecDataLenBody (len : Nat) (s : State) : Verdict := .success (s.setResult0 (BitVec.ofInt 32 ((len : Int) - 32)))

/-- `FEC_DATA_LEN` (R251). -/
def execFecDataLen (len : Nat) (s : State) : Host.Outcome State Fault Refusal := runLI len fecDataLenBody s

end Sys2Proof.Machine
end

