-- ==== Sys2Proof/Machine/Modem.lean ====
section
/-! DEFINITION. The FSK-4 modem (spec/41_modem.md): the modulator (R162, R163), the demodulator (R170 to R177) and the
commands of opcode group `0x1_`. -/

namespace Sys2Proof.Machine

/-! ## Modulator -/

/-- The four symbols of a byte in time order, most significant pair first (R162). -/
def byteSymbols (b : Byte) : List Symbol :=
  [Fin.ofNat 4 (b.toNat / 64), Fin.ofNat 4 (b.toNat / 16), Fin.ofNat 4 (b.toNat / 4), Fin.ofNat 4 b.toNat]

/-- The symbols of a byte string in time order (R162). -/
def bytesSymbols (bs : List Byte) : List Symbol := bs.flatMap byteSymbols

/-- `n` samples of one tone from phase `ph`, the sample taken before the phase advances (R163). -/
def toneSamples (fcw : Word) : Nat → Word → List Entry
  | 0, _ => []
  | n + 1, ph => u16 (sinOf ph) :: toneSamples fcw n (ph + fcw)

/-- The phase after `n` samples of one tone (R163). -/
def tonePhase (fcw : Word) : Nat → Word → Word
  | 0, ph => ph
  | n + 1, ph => tonePhase fcw n (ph + fcw)

/-- `tx_symbol(v)`: `ACT_SPS` samples of tone `v` and the transmit state after them (R163). -/
def txSymbol (act : ActiveCfg) (tx : ModemTx) (v : Symbol) : ModemTx × List Entry :=
  ({ phase := tonePhase (act.fcw.get v) act.sps.toNat tx.phase, symbolsTx := satInc tx.symbolsTx },
    toneSamples (act.fcw.get v) act.sps.toNat tx.phase)

/-- A sequence of symbols sent in order (R163): the transmit state after it and its samples. -/
def txSymbols (act : ActiveCfg) : List Symbol → ModemTx → ModemTx × List Entry
  | [], tx => (tx, [])
  | v :: vs, tx =>
    let r := txSymbol act tx v
    let r' := txSymbols act vs r.1
    (r'.1, r.2 ++ r'.2)

/-- A byte string modulated (R162 to R164). -/
def txBytes (act : ActiveCfg) (bs : List Byte) (tx : ModemTx) : ModemTx × List Entry :=
  txSymbols act (bytesSymbols bs) tx

/-- The length law: `n` bytes make `n * 4 * ACT_SPS` samples (R166). -/
def samplesFor (act : ActiveCfg) (n : Nat) : Nat := n * 4 * act.sps.toNat

/-! ## Demodulator -/

/-- A value kept in a 48-bit accumulator (R47, R185; log 12). -/
def accOf (v : Int) : Acc := BitVec.ofInt 48 v

/-- One sample into the correlator of one tone: `first` says that it falls in the first half-window (R170). -/
def Correlator.sample (c : Correlator) (fcw : Word) (x : Int) (first : Bool) : Correlator :=
  let co := x * cosOf c.ph
  let si := x * sinOf c.ph
  if first then { c with ia := accOf (c.ia.toInt + co), qa := accOf (c.qa.toInt + si), ph := c.ph + fcw }
  else { c with ib := accOf (c.ib.toInt + co), qb := accOf (c.qb.toInt + si), ph := c.ph + fcw }

/-- The energy of an in-phase and quadrature pair after the shift by `ENERGY_SHIFT` (R171, R173; log 20). -/
def pairEnergy (i q : Int) : Int := asr i energyShift * asr i energyShift + asr q energyShift * asr q energyShift

/-- `E[k]`, the tone's energy over the whole window (R171). -/
def Correlator.energy (c : Correlator) : Int := pairEnergy (c.ia.toInt + c.ib.toInt) (c.qa.toInt + c.qb.toInt)

/-- `EA`, the tone's energy over the first half-window (R173). -/
def Correlator.energyA (c : Correlator) : Int := pairEnergy c.ia.toInt c.qa.toInt

/-- `EB`, the tone's energy over the second half-window (R173). -/
def Correlator.energyB (c : Correlator) : Int := pairEnergy c.ib.toInt c.qb.toInt

/-- `ETOT` (R171). -/
def energyTotal (e : Tones Int) : Int := e.t0 + e.t1 + e.t2 + e.t3

/-- The symbol decision: the smallest `k` whose energy no other exceeds (R172). -/
def decideSymbol (e : Tones Int) : Symbol :=
  if e.t1 ≤ e.t0 ∧ e.t2 ≤ e.t0 ∧ e.t3 ≤ e.t0 then 0
  else if e.t0 ≤ e.t1 ∧ e.t2 ≤ e.t1 ∧ e.t3 ≤ e.t1 then 1
  else if e.t0 ≤ e.t2 ∧ e.t1 ≤ e.t2 ∧ e.t3 ≤ e.t2 then 2
  else 3

/-- `TE`, the timing error of the window from the decided tone's half-window energies (R173). -/
def timingError (trackEn : Bool) (half : Nat) (ea eb : Int) : Int :=
  if trackEn = true ∧ 0 < ea + eb then sdiv ((ea - eb) * half) (ea + eb) else 0

/-- `DB`, the deadband (R174). -/
def deadband (half : Nat) : Nat := max 1 (half / 4)

/-- `CORR`, the correction of the next window's length (R174). -/
def timingCorr (trackEn : Bool) (half : Nat) (te : Int) : Int :=
  if trackEn = true ∧ deadband half ≤ te.natAbs then sdiv te 2 else 0

/-- `GOOD` (R175). -/
def goodWindow (e : Tones Int) (sym : Symbol) (half : Nat) (te : Int) : Bool :=
  decide (2 * energyTotal e < 3 * e.get sym) && decide (te.natAbs < deadband half)

/-- `LOCKQ` after a window (R175). -/
def lockqNext (good : Bool) (q : Nat) : Nat := if good then min (q + 1) lockqMax else q - lockDec

/-- The lock detector (R175). -/
def ModemRx.lockStep (rx : ModemRx) (good : Bool) : ModemRx :=
  let q := lockqNext good rx.lockq.toNat
  let rx := { rx with lockq := BitVec.ofNat 4 q }
  if rx.locked = false ∧ lockHi ≤ q then { rx with locked := true }
  else if rx.locked = true ∧ q = 0 then { rx with locked := false, syncLosses := satInc rx.syncLosses }
  else rx

/-- The byte assembler: the receive state and the byte that came out, if any (R176). -/
def ModemRx.assemble (rx : ModemRx) (sym : Symbol) : ModemRx × Option Byte :=
  let sh : Byte := (rx.shreg <<< 2) ||| BitVec.ofNat 8 sym.val
  let rx := { rx with symbolsRx := satInc rx.symbolsRx }
  if rx.nsym.toNat + 1 = 4 then ({ rx with shreg := 0, nsym := 0 }, some sh)
  else ({ rx with shreg := sh, nsym := rx.nsym + 1 }, none)

/-- The restart of the window with `ACT_SPS - CORR` samples (R177). -/
def ModemRx.nextWindow (rx : ModemRx) (sps : BitVec 13) (corr : Int) : ModemRx :=
  rx.restartWindow (BitVec.ofInt 13 (sps.toNat - corr))

/-- `window_end()` (R171 to R177). -/
def ModemRx.windowEnd (rx : ModemRx) (act : ActiveCfg) : ModemRx × Option Byte :=
  let e := rx.cor.map Correlator.energy
  let sym := decideSymbol e
  let c := rx.cor.get sym
  let half := rx.half.toNat
  let te := timingError act.trackEn half c.energyA c.energyB
  let corr := timingCorr act.trackEn half te
  let rx := ({ rx with timingErr := BitVec.ofInt 16 te }).lockStep (goodWindow e sym half te)
  let r := rx.assemble sym
  (r.1.nextWindow act.sps corr, r.2)

/-- The correlators after one sample (R170). -/
def ModemRx.correlate (rx : ModemRx) (act : ActiveCfg) (x : Int) : ModemRx :=
  let first := decide (rx.clk.toNat < rx.half.toNat)
  { rx with cor := rx.cor.zip (fun c fcw => c.sample fcw x first) act.fcw, clk := rx.clk + 1 }

/-- `rx_sample(x)`: the receive state after one sample and the byte that came out, if any (R170). -/
def ModemRx.sample (rx : ModemRx) (act : ActiveCfg) (x : Int) : ModemRx × Option Byte :=
  let rx := rx.correlate act x
  if rx.clk = rx.wlen then rx.windowEnd act else (rx, none)

/-- Samples received in order: the receive state after them and the bytes that came out (R178, R182). -/
def rxSamples (act : ActiveCfg) : List Entry → ModemRx → ModemRx × List Byte
  | [], rx => (rx, [])
  | x :: xs, rx =>
    let r := rx.sample act (int16 x)
    let r' := rxSamples act xs r.1
    (r'.1, r.2.toList ++ r'.2)

/-! ## Commands -/

/-- The body of `MODEM_RESET` (R180). -/
def modemResetBody (s : State) : Verdict := .success s.modemReset

/-- `MODEM_RESET` (R180). -/
def execModemReset (s : State) : Host.Outcome State Fault Refusal := runZ modemResetBody s

/-- The body of `SAMPLES_FOR_BYTES` (R165). -/
def samplesForBytesBody (len : Nat) (s : State) : Verdict :=
  if s.act.cfgValid = false then .raised .config 6
  else
    let v := samplesFor s.act len
    .success ((s.setResult0 (resultWord v)).setResult1 (resultWord (v / 2 ^ 32)))

/-- `SAMPLES_FOR_BYTES` (R165). -/
def execSamplesForBytes (len : Nat) (s : State) : Host.Outcome State Fault Refusal := runLI len samplesForBytesBody s

/-- The body of `MODULATE` (R164). -/
def modulateBody (operand : List Entry) (s : State) : Verdict :=
  if s.act.cfgValid = false then .raised .config 6
  else
    let n := samplesFor s.act operand.length
    if s.doutLacks n then .raised .capacity 0
    else
      let r := txBytes s.act (operandBytes operand) s.tx
      .success ((({ s with tx := r.1 } : State).pushDout r.2).setResult0 (resultWord n))

/-- `MODULATE` (R164). -/
def execModulate (len : Nat) (s : State) : Host.Outcome State Fault Refusal := runLD len modulateBody s

/-- The body of `DEMODULATE` (R178). DESIGN CHOICE: an empty operand succeeds even with `DOUT` full, as R183 and
R178's corner case say; the capacity test of R178's pseudocode, which would raise there, is made for `LEN > 0` (log 23). -/
def demodulateBody (operand : List Entry) (s : State) : Verdict :=
  if s.act.cfgValid = false then .raised .config 6
  else if operand ≠ [] ∧ s.doutLacks (operand.length / 4 + 1) then .raised .capacity 0
  else
    let r := rxSamples s.act operand s.rx
    .success ((({ s with rx := r.1 } : State).pushDout (r.2.map byteEntry)).setResult0 (resultWord r.2.length))

/-- `DEMODULATE` (R178). -/
def execDemodulate (len : Nat) (s : State) : Host.Outcome State Fault Refusal := runLD len demodulateBody s

end Sys2Proof.Machine
end

