-- ==== Sys2Proof/Machine/Collab.lean ====
section
/-! DEFINITION. The collaborator attached to the block (spec/43_session.md rules R262 to R267): the external one (opaque
constants of Config), or the spec's test doubles T0 and T0F (spec/95_test_vectors.md part 2). -/

namespace Sys2Proof.Machine

/-- A byte string cut or zero-filled to `n` bytes. -/
def fitBytes (n : Nat) (l : List Byte) : List Byte := l.take n ++ zeros (n - l.length)

/-- The xor of two byte strings, byte by byte. -/
def xorBytes (a b : List Byte) : List Byte := List.zipWith (· ^^^ ·) a b

/-- The xor of all bytes of a string. -/
def checksum (l : List Byte) : Byte := l.foldl (· ^^^ ·) 0

/-- `pt[i] ^ keys[i mod 32]`, byte by byte (test double T0). -/
def keystreamXor (keys pt : List Byte) : List Byte := pt.zipIdx.map (fun p => p.1 ^^^ keys.getD (p.2 % 32) 0)

/-- T0's `XKeypair` (spec/95_test_vectors.md part 2), `sk` cut to `SK_BYTES` (log 11). -/
def t0Keypair (skBytes : Nat) (seed : List Byte) : List Byte × List Byte :=
  (fitBytes skBytes seed, fitBytes keyLen (seed.map (· ^^^ 0xFF)))

/-- T0's `XHsBegin`. -/
def t0HsBegin (role : Role) (pk peer : List Byte) : HsResult :=
  match role with
  | .client => .cont (1 :: (pk ++ peer ++ zeros 191)) (some pk)
  | .server => .cont (0 :: (pk ++ peer ++ zeros 191)) none

/-- T0's `XHsStep`. -/
def t0HsStep (ctx msg : List Byte) : HsResult :=
  let pk := (ctx.drop 1).take 32
  let peer := (ctx.drop 33).take 32
  if msg.length ≠ 32 then .fail 2
  else if msg ≠ peer then .fail 3
  else .complete (xorBytes pk peer ++ zeros 32) (if ctx.headD 0 = 0 then some pk else none)

/-- T0's `XEncrypt`. -/
def t0Encrypt (keys pt : List Byte) : EncResult := .ok keys (keystreamXor keys pt ++ [checksum pt])

/-- T0's `XDecrypt`. -/
def t0Decrypt (keys ct : List Byte) : DecResult :=
  let pt := keystreamXor keys ct.dropLast
  if checksum pt = ct.getLastD 0 then .ok keys pt else .reject keys

/-- `XKeypair(seed) -> (sk, pk)`, `sk` of `SK_BYTES` bytes and `pk` of 32 (R263; log 11). -/
def xKeypair (p : Params) (seed : List Byte) : List Byte × List Byte :=
  match p.collab with
  | .external => ((Config.xKeypair p.skBytes seed).1.toList, (Config.xKeypair p.skBytes seed).2.toList)
  | .t0 => t0Keypair p.skBytes seed
  | .t0f => t0Keypair p.skBytes seed

/-- `XHsBegin(role, sk, pk, peer)` (R264). -/
def xHsBegin (p : Params) (role : Role) (sk pk peer : List Byte) : HsResult :=
  match p.collab with
  | .external => Config.xHsBegin role sk pk peer
  | .t0 => t0HsBegin role pk peer
  | .t0f => t0HsBegin role pk peer

/-- `XHsStep(ctx, msg)` (R265). -/
def xHsStep (p : Params) (ctx msg : List Byte) : HsResult :=
  match p.collab with
  | .external => Config.xHsStep ctx msg
  | .t0 => t0HsStep ctx msg
  | .t0f => t0HsStep ctx msg

/-- `XEncrypt(keys, pt)` (R266). -/
def xEncrypt (p : Params) (keys pt : List Byte) : EncResult :=
  match p.collab with
  | .external => Config.xEncrypt keys pt
  | .t0 => t0Encrypt keys pt
  | .t0f => .fatal

/-- `XDecrypt(keys, ct)` (R267). -/
def xDecrypt (p : Params) (keys ct : List Byte) : DecResult :=
  match p.collab with
  | .external => Config.xDecrypt keys ct
  | .t0 => t0Decrypt keys ct
  | .t0f => t0Decrypt keys ct

/-! ## Shape checks -/

/-- An outgoing handshake message is absent or has `1 .. HS_MSG_MAX` bytes (R264). -/
def hsOutOk (p : Params) : Option (List Byte) → Bool
  | none => true
  | some m => decide (1 ≤ m.length ∧ m.length ≤ p.hsMsgMax)

/-- The shape check of R264: a result of another shape is treated as `Fail(4)` (R264, R261 code 4; log 9). -/
def hsChecked (p : Params) : HsResult → HsResult
  | .cont ctx out => if ctx.length = p.hsctxBytes ∧ hsOutOk p out = true then .cont ctx out else .fail 4
  | .complete keys out => if keys.length = p.keysBytes ∧ hsOutOk p out = true then .complete keys out else .fail 4
  | .fail reason => if reason = 2 ∨ reason = 3 ∨ reason = 4 then .fail reason else .fail 4

/-- The shape check of R266: a result of the wrong length is treated as `Fatal`. `m` is `len(pt) + AEAD_OVERHEAD`. -/
def encChecked (p : Params) (m : Nat) : EncResult → EncResult
  | .ok keys ct => if ct.length = m ∧ keys.length = p.keysBytes then .ok keys ct else .fatal
  | .fatal => .fatal

/-- The shape check of R267: a result of the wrong length is treated as `Fatal` (log 10). `n` is `len(ct)`. -/
def decChecked (p : Params) (n : Nat) : DecResult → DecResult
  | .ok keys pt => if pt.length + p.aeadOverhead = n ∧ keys.length = p.keysBytes then .ok keys pt else .fatal
  | .reject keys => if keys.length = p.keysBytes then .reject keys else .fatal
  | .fatal => .fatal

end Sys2Proof.Machine
end

