-- ==== Sys2Proof/Machine/Flags.lean ====
section
/-! DEFINITION. The status words a host reads (spec/20_memory.md rules R83, R85), `INT_STATUS`, `INT_ENABLE` and the
interrupt line (spec/60_exceptions.md rules R366, R367), and the encodings of R261. -/

namespace Sys2Proof.Machine

/-- The 4-bit encoding of `STATE` (R261). -/
def SessState.code : SessState → Nat
  | .uninitialized => 0
  | .idle => 1
  | .handshaking => 2
  | .established => 3
  | .stopping => 4
  | .terminated => 5

/-- The 1-bit encoding of `ROLE` (R261). -/
def roleCode : Role → Nat
  | .server => 0
  | .client => 1

/-- The 2-bit encoding of `TERM_KIND` (R261). -/
def TermKind.code : TermKind → Nat
  | .noTerm => 0
  | .normal => 1
  | .hangup => 2
  | .error => 3

/-- What a read of `STATUS` returns (R85). -/
def State.statusWord (s : State) : Word :=
  BitVec.ofNat 32
    (bit s.host.busy * 2 ^ 0 + bit s.act.cfgValid * 2 ^ 1 + bit s.rx.locked * 2 ^ 2 + bit s.sess.hsOutValid * 2 ^ 3
      + bit s.sess.hangupLocalSent * 2 ^ 4 + bit s.sess.hangupRemotePending * 2 ^ 5
      + bit s.sess.hangupRemoteLatch * 2 ^ 6 + bit s.act.fecEn * 2 ^ 7 + s.sess.state.code * 2 ^ 8
      + roleCode s.sess.role * 2 ^ 12 + s.sess.termKind.code * 2 ^ 13 + bit s.sess.keypairValid * 2 ^ 15
      + s.sess.termReason.toNat * 2 ^ 16)

/-- What a read of `ERR` returns: `(DETAIL << 8) | CODE` (R83, R362). -/
def State.errWord (s : State) : Word := BitVec.ofNat 32 (s.host.errCode.toNat + s.host.errDetail.toNat * 2 ^ 8)

/-- The level bits 3:0 of `INT_STATUS`: pure functions of the state (R366). -/
def State.intLevels (s : State) : Nat :=
  bit (!s.queues.evq.isEmpty) * 2 ^ 0 + bit s.sess.hsOutValid * 2 ^ 1 + bit (!s.queues.rxq.isEmpty) * 2 ^ 2
    + bit (!s.queues.txq.isEmpty) * 2 ^ 3

/-- The sticky bits 13:8 of `INT_STATUS` (R366). -/
def HostIf.intSticky (h : HostIf) : Nat :=
  bit h.cmdErr * 2 ^ 8 + bit h.dinOverflow * 2 ^ 9 + bit h.doutUnderflow * 2 ^ 10 + bit h.evUnderflow * 2 ^ 11
    + bit h.cmdOverrun * 2 ^ 12 + bit h.queueDrop * 2 ^ 13

/-- What a read of `INT_STATUS` returns (R93, R366). -/
def State.intStatus (s : State) : Word := BitVec.ofNat 32 (s.intLevels + s.host.intSticky)

/-- The implemented bits of `INT_ENABLE`: 3:0 and 13:8 (R93, R366). -/
def intMask : Word := 0x00003F0F

/-- A write of `v` to `INT_STATUS`: every sticky bit with a 1 in `v` is cleared (R93). -/
def HostIf.clearSticky (h : HostIf) (v : Word) : HostIf :=
  { h with
    cmdErr := h.cmdErr && !v.getLsbD 8
    dinOverflow := h.dinOverflow && !v.getLsbD 9
    doutUnderflow := h.doutUnderflow && !v.getLsbD 10
    evUnderflow := h.evUnderflow && !v.getLsbD 11
    cmdOverrun := h.cmdOverrun && !v.getLsbD 12
    queueDrop := h.queueDrop && !v.getLsbD 13 }

/-- The output line `irq`: 1 iff `INT_STATUS and INT_ENABLE` is not 0 (R367). -/
def State.irq (s : State) : Bool := (s.intStatus &&& s.host.intEnable) != 0

/-- What a read of `ACT_FLAGS` returns (R83). -/
def ActiveCfg.flagsWord (a : ActiveCfg) : Word :=
  BitVec.ofNat 32 (bit a.fecEn * 2 ^ 0 + bit a.debugLog * 2 ^ 1 + bit a.trackEn * 2 ^ 2 + bit a.cfgValid * 2 ^ 3)

/-- What a read of `MODEM_STATUS` returns (R83). -/
def ModemRx.statusWord (rx : ModemRx) : Word :=
  BitVec.ofNat 32
    (bit rx.locked * 2 ^ 0 + rx.lockq.toNat * 2 ^ 4 + rx.nsym.toNat * 2 ^ 8 + rx.clk.toNat * 2 ^ 16)

/-- What a read of `MODEM_WINDOW` returns (R83). -/
def ModemRx.windowWord (rx : ModemRx) : Word := BitVec.ofNat 32 (rx.wlen.toNat + rx.half.toNat * 2 ^ 16)

end Sys2Proof.Machine
end

