-- ==== Sys2Proof/Machine/Session.lean ====
section
/-! DEFINITION. The session control FSM and handshake sequencer (spec/43_session.md): the shared bodies R273 and R280
and the session-control commands of opcode group `0x3_`; `SEND_HANGUP`, which runs the outbound pipeline, stands in
Pipeline.lean. -/

namespace Sys2Proof.Machine

/-- The detail byte of `SessionStateError`: the value of `STATE` (R356). -/
def State.stateByte (s : State) : Byte := BitVec.ofNat 8 s.sess.state.code

/-- Put an outgoing handshake message, if there is one, into the mailbox (R273). -/
def Session.postMessage (x : Session) : Option (List Byte) → Session
  | none => x
  | some m => { x with hsOut := m, hsOutValid := true }

/-- `hs_apply(res)` on a result that passed the shape check (R273). -/
def State.hsApply (s : State) : HsResult → Verdict
  | .cont ctx out =>
    .success { s with sess := { ({ s.sess with hsctx := ctx } : Session).postMessage out with hsTimer := s.act.hsTimeout } }
  | .complete keys out =>
    .success
      ((({ s with sess :=
            { ({ s.sess with keys := keys, hsctx := zeros s.params.hsctxBytes, hsTimer := 0 } : Session).postMessage out with
              state := .established } } : State).emit 2 0).emit 4 0)
  | .fail reason => s.hsFail reason

/-! ## Identity commands -/

/-- The event that announces the end of a live session: `call_ended` from `Established`, `handshake_failed{cancelled}`
from `Handshaking` (R276, R290). -/
def State.emitTeardown (s : State) : State :=
  match s.sess.state with
  | .established => s.emit 8 (bit s.sess.hangupRemoteLatch)
  | .handshaking => s.emit 3 6
  | .uninitialized => s
  | .idle => s
  | .stopping => s
  | .terminated => s

/-- The body of `INITIALIZE` (R276). -/
def initializeBody (operand : List Entry) (s : State) : Verdict :=
  if operand.length ≠ keyLen then .raised .key 1
  else
    let kp := xKeypair s.params (operandBytes operand)
    let s1 := s.emitTeardown.wipe
    .success
      { s1 with sess := { s1.sess with
          sk := kp.1, pk := kp.2, keypairValid := true, state := .idle, termKind := .noTerm, termReason := 0 } }

/-- `INITIALIZE` (R276). -/
def execInitialize (len : Nat) (s : State) : Host.Outcome State Fault Refusal := runLD len initializeBody s

/-- The body of `DERIVE_PUBKEY` (R277). -/
def derivePubkeyBody (operand : List Entry) (s : State) : Verdict :=
  if operand.length ≠ keyLen then .raised .key 1
  else if s.doutLacks keyLen then .raised .capacity 0
  else
    .success ((s.pushDout ((xKeypair s.params (operandBytes operand)).2.map byteEntry)).setResult0 (resultWord keyLen))

/-- `DERIVE_PUBKEY` (R277). -/
def execDerivePubkey (len : Nat) (s : State) : Host.Outcome State Fault Refusal := runLD len derivePubkeyBody s

/-! ## Handshake commands -/

/-- The state in which `start(role)` calls the collaborator (R280). -/
def State.beginHandshake (s : State) (role : Role) (peer : List Byte) : State :=
  ({ s with sess := { s.sess with
      role := role, peerKey := peer
      hangupLocalSent := false, hangupRemotePending := false, hangupRemoteLatch := false
      hsOut := [], hsOutValid := false, state := .handshaking } } : State).emit 1 (roleCode role)

/-- `start(role)`, the common body of the two start commands (R280). -/
def startBody (role : Role) (operand : List Entry) (s : State) : Verdict :=
  if s.sess.state ≠ .idle then .raised .sessionState s.stateByte
  else if operand.length ≠ keyLen then .raised .key 2
  else
    let peer := operandBytes operand
    (s.beginHandshake role peer).hsApply (hsChecked s.params (xHsBegin s.params role s.sess.sk s.sess.pk peer))

/-- `START_SERVER`: `start(0)` (R278). -/
def execStartServer (len : Nat) (s : State) : Host.Outcome State Fault Refusal := runLD len (startBody .server) s

/-- `START_CLIENT`: `start(1)` (R279). -/
def execStartClient (len : Nat) (s : State) : Host.Outcome State Fault Refusal := runLD len (startBody .client) s

/-- The body of `HS_READ` (R285). -/
def hsReadBody (s : State) : Verdict :=
  if s.sess.hsOutValid = false then .success (s.setResult0 0)
  else if s.doutLacks s.sess.hsOut.length then .raised .capacity 0
  else
    let s1 := (s.pushDout (s.sess.hsOut.map byteEntry)).setResult0 (resultWord s.sess.hsOut.length)
    .success { s1 with sess := { s1.sess with hsOut := [], hsOutValid := false } }

/-- `HS_READ` (R285). -/
def execHsRead (s : State) : Host.Outcome State Fault Refusal := runZ hsReadBody s

/-- The body of `HS_WRITE` (R286). -/
def hsWriteBody (operand : List Entry) (s : State) : Verdict :=
  if s.sess.state ≠ .handshaking then .raised .sessionState s.stateByte
  else if s.sess.hsOutValid = true then .raised .mailboxBusy 0
  else if s.params.hsMsgMax < operand.length then s.hsFail 2
  else s.hsApply (hsChecked s.params (xHsStep s.params s.sess.hsctx (operandBytes operand)))

/-- `HS_WRITE` (R286). -/
def execHsWrite (len : Nat) (s : State) : Host.Outcome State Fault Refusal := runLD len hsWriteBody s

/-- The body of `TICK` (R296). -/
def tickBody (s : State) : Verdict :=
  if s.sess.state = .handshaking ∧ s.sess.hsTimer ≠ 0 then
    let s1 : State := { s with sess := { s.sess with hsTimer := s.sess.hsTimer - 1 } }
    if s1.sess.hsTimer = 0 then s1.hsFail 1 else .success (s1.setResult0 s1.sess.hsTimer)
  else .success (s.setResult0 s.sess.hsTimer)

/-- `TICK` (R296). -/
def execTick (s : State) : Host.Outcome State Fault Refusal := runZ tickBody s

/-! ## Stop and hangup -/

/-- The kind of termination `STOP` records: `Hangup` from `Established` after a remote hangup, else `Normal` (R290). -/
def State.stopKind (s : State) : TermKind :=
  if s.sess.state = .established ∧ s.sess.hangupRemoteLatch = true then .hangup else .normal

/-- The body of `STOP` (R290). -/
def stopBody (s : State) : Verdict :=
  if s.sess.state = .terminated then .success s
  else .success (s.emitTeardown.wipe.terminate s.stopKind 0)

/-- `STOP` (R290). -/
def execStop (s : State) : Host.Outcome State Fault Refusal := runZ stopBody s

/-- The body of `CONSUME_REMOTE_HANGUP` (R294). -/
def consumeRemoteHangupBody (s : State) : Verdict :=
  let s1 := s.setResult0 (resultWord (bit s.sess.hangupRemotePending))
  .success { s1 with sess := { s1.sess with hangupRemotePending := false } }

/-- `CONSUME_REMOTE_HANGUP` (R294). -/
def execConsumeRemoteHangup (s : State) : Host.Outcome State Fault Refusal := runZ consumeRemoteHangupBody s

end Sys2Proof.Machine
end

