-- ==== Sys2Proof/Machine/Pipeline.lean ====
section
/-! DEFINITION. The frame pipeline (spec/44_frame_pipeline.md): `tx_frame` (R320), `lost` (R326), the commands of opcode
group `0x4_`, and `SEND_HANGUP` (spec/43_session.md rule R293). -/

namespace Sys2Proof.Machine

/-! ## Outbound -/

/-- The end of `tx_frame` once the frame's bytes are known: modulate them, queue the PCM, count the frame (R320). -/
def State.queueFrame (s : State) (bytes : List Byte) : State :=
  let r := txBytes s.act bytes s.tx
  let s1 := ({ s with tx := r.1 } : State).pushTxq r.2
  ({ s1 with pipe := { s1.pipe with framesTx := satInc s1.pipe.framesTx } } : State).setResult0 (resultWord r.2.length)

/-- `tx_frame(type, payload)` (R320). -/
def State.txFrame (s : State) (type : Byte) (payload : List Byte) : Verdict :=
  let pt := type :: payload
  let m := pt.length + s.params.aeadOverhead
  if s.act.cfgValid = false then .raised .config 6
  else if s.act.fecEn = true ∧ rsK < m then .raised .config 5
  else if s.act.fecEn = false ∧ frameBytesMax < m then .raised .config 7
  else
    match encChecked s.params m (xEncrypt s.params s.sess.keys pt) with
    | .fatal => s.fatal 4
    | .ok keys ct =>
      let s1 : State := { s with sess := { s.sess with keys := keys } }
      .success (if s.act.fecEn then s1.countEncode.queueFrame (rsEncode ct) else s1.queueFrame ct)

/-- The body of `FEED_MIC_FRAME` (R321). -/
def feedMicFrameBody (operand : List Entry) (s : State) : Verdict :=
  if s.sess.state ≠ .established then .raised .sessionState s.stateByte
  else s.txFrame 0x00 (operandBytes operand)

/-- `FEED_MIC_FRAME` (R321). -/
def execFeedMicFrame (len : Nat) (s : State) : Host.Outcome State Fault Refusal := runLD len feedMicFrameBody s

/-- The body of `SEND_HANGUP` (R293). -/
def sendHangupBody (s : State) : Verdict :=
  if s.sess.state ≠ .established then .raised .sessionState s.stateByte
  else (s.txFrame 0x01 []).andThen (fun t => { t with sess := { t.sess with hangupLocalSent := true } })

/-- `SEND_HANGUP` (R293). -/
def execSendHangup (s : State) : Host.Outcome State Fault Refusal := runZ sendHangupBody s

/-- The body of `GENERATE_OUTGOING_FRAME` (R330). -/
def generateOutgoingFrameBody (s : State) : Verdict :=
  match s.queues.txq with
  | [] => .success s.clearResults
  | f :: rest =>
    if s.doutLacks f.length then .raised .capacity 0
    else
      .success
        (((({ s with queues := { s.queues with txq := rest } } : State).pushDout f).setResult0
          (resultWord f.length)).setResult1 1)

/-- `GENERATE_OUTGOING_FRAME` (R330). -/
def execGenerateOutgoingFrame (s : State) : Host.Outcome State Fault Refusal := runZ generateOutgoingFrameBody s

/-! ## Inbound -/

/-- `lost(reason)` (R326). -/
def State.lost (s : State) (reason : Nat) : State :=
  ({ s with pipe := { s.pipe with framesLost := satInc s.pipe.framesLost } } : State).emit 6 reason

/-- A frame lost as malformed: reason 1, `RESULT0 = 2` (R325, R326). -/
def State.lostMalformed (s : State) : State := (s.lost 1).setResult0 2

/-- What becomes of a decrypted plaintext, by its type byte (R311, R325). -/
def State.deliver (s : State) : List Byte → State
  | [] => s.lostMalformed
  | type :: payload =>
    if type = 0x00 then (s.pushRxq payload).setResult0 0
    else if type = 0x01 then
      ({ s with sess := { s.sess with hangupRemotePending := true, hangupRemoteLatch := true } } : State).setResult0 1
    else s.lostMalformed

/-- The decryption stage of the inbound pipeline (R325). -/
def State.decryptFrame (s : State) (ct : List Byte) : Verdict :=
  if ct.length < s.params.aeadOverhead + 1 then .success s.lostMalformed
  else
    match decChecked s.params ct.length (xDecrypt s.params s.sess.keys ct) with
    | .fatal => s.fatal 4
    | .reject keys => .success ((({ s with sess := { s.sess with keys := keys } } : State).lost 3).setResult0 4)
    | .ok keys pt => .success (({ s with sess := { s.sess with keys := keys } } : State).deliver pt)

/-- The FEC stage of the inbound pipeline on the demodulated bytes, then decryption (R325). -/
def State.decodeFrame (s : State) (rb : List Byte) : Verdict :=
  if s.act.fecEn = true then
    if rb.length < rsPar ∨ rsN < rb.length then .success s.lostMalformed
    else
      match rsDecode rb with
      | .uncorrectable => .success ((s.countDecode.countUncorrectable.lost 2).setResult0 3)
      | .corrected cnt cw =>
        let s1 := (s.countDecode.countCorrected cnt).setResult1 (resultWord cnt)
        let s2 := if 0 < cnt then s1.emit 5 cnt else s1
        s2.decryptFrame (cw.take (rb.length - rsPar))
  else if frameBytesMax < rb.length then .success s.lostMalformed
  else s.decryptFrame rb

/-- The body of `HANDLE_INCOMING_FRAME` (R325). -/
def handleIncomingFrameBody (operand : List Entry) (s : State) : Verdict :=
  if s.sess.state ≠ .established then .raised .sessionState s.stateByte
  else if s.act.cfgValid = false then .raised .config 6
  else
    let r := rxSamples s.act operand (s.rx.realign s.act.sps)
    ({ s with rx := r.1, pipe := { s.pipe with framesRx := satInc s.pipe.framesRx } } : State).decodeFrame r.2

/-- `HANDLE_INCOMING_FRAME` (R325). -/
def execHandleIncomingFrame (len : Nat) (s : State) : Host.Outcome State Fault Refusal :=
  runLD len handleIncomingFrameBody s

/-- The body of `PULL_SPEAKER_FRAME` (R331). -/
def pullSpeakerFrameBody (s : State) : Verdict :=
  match s.queues.rxq with
  | [] => .success s.clearResults
  | f :: rest =>
    if s.doutLacks f.length then .raised .capacity 0
    else
      .success
        (((({ s with queues := { s.queues with rxq := rest } } : State).pushDout (f.map byteEntry)).setResult0
          (resultWord f.length)).setResult1 1)

/-- `PULL_SPEAKER_FRAME` (R331). -/
def execPullSpeakerFrame (s : State) : Host.Outcome State Fault Refusal := runZ pullSpeakerFrameBody s

end Sys2Proof.Machine
end

