-- ==== Sys2Proof/Machine/Dispatch.lean ====
section
/-! DEFINITION. The dispatch of a decoded command to its meaning (spec/30_encoding.md rule R113), one arm per command. -/

namespace Sys2Proof.Machine

def exec (i : Instr) (s : State) : Host.Outcome State Fault Refusal :=
  match i with
  | .nop => Sys2Proof.Machine.execNop s
  | .setConfig => Sys2Proof.Machine.execSetConfig s
  | .dioFlush => Sys2Proof.Machine.execDioFlush s
  | .modemReset => Sys2Proof.Machine.execModemReset s
  | .samplesForBytes len => Sys2Proof.Machine.execSamplesForBytes len s
  | .modulate len => Sys2Proof.Machine.execModulate len s
  | .demodulate len => Sys2Proof.Machine.execDemodulate len s
  | .fecEncode len => Sys2Proof.Machine.execFecEncode len s
  | .fecDecode len => Sys2Proof.Machine.execFecDecode len s
  | .fecEncodedLen len => Sys2Proof.Machine.execFecEncodedLen len s
  | .fecDataLen len => Sys2Proof.Machine.execFecDataLen len s
  | .initializeSession len => Sys2Proof.Machine.execInitialize len s
  | .startServer len => Sys2Proof.Machine.execStartServer len s
  | .startClient len => Sys2Proof.Machine.execStartClient len s
  | .stopSession => Sys2Proof.Machine.execStop s
  | .derivePubkey len => Sys2Proof.Machine.execDerivePubkey len s
  | .sendHangup => Sys2Proof.Machine.execSendHangup s
  | .consumeRemoteHangup => Sys2Proof.Machine.execConsumeRemoteHangup s
  | .hsRead => Sys2Proof.Machine.execHsRead s
  | .hsWrite len => Sys2Proof.Machine.execHsWrite len s
  | .tick => Sys2Proof.Machine.execTick s
  | .feedMicFrame len => Sys2Proof.Machine.execFeedMicFrame len s
  | .handleIncomingFrame len => Sys2Proof.Machine.execHandleIncomingFrame len s
  | .generateOutgoingFrame => Sys2Proof.Machine.execGenerateOutgoingFrame s
  | .pullSpeakerFrame => Sys2Proof.Machine.execPullSpeakerFrame s

end Sys2Proof.Machine
end

