-- ==== Sys2Proof/Machine/Bus.lean ====
section
/-! DEFINITION. The register space (spec/20_memory.md rules R80 to R96) and the service of one host access (R101), a write
of `CMD` running the whole command (R86, R118). -/

namespace Sys2Proof.Machine

/-- A legal host access is an aligned 32-bit access inside `0x000 .. 0x1FF` (R81). -/
abbrev legalAccess (off width : Nat) : Prop := width = 4 ∧ off % 4 = 0 ∧ off < 0x200

/-- The identification register (R1, R38, R84). -/
def idWord : Word := 0x42544331

/-- What a read of the register at `off` returns (R83 to R96). Write-only and reserved offsets read 0. -/
def State.regValue (s : State) (off : Nat) : Word :=
  match off with
  | 0x000 => idWord
  | 0x004 => s.statusWord
  | 0x00C => s.errWord
  | 0x010 => s.host.result0
  | 0x014 => s.host.result1
  | 0x01C => BitVec.ofNat 32 s.host.din.length
  | 0x020 => (s.host.dout.headD 0).setWidth 32
  | 0x024 => BitVec.ofNat 32 s.host.dout.length
  | 0x028 => s.queues.evq.headD 0
  | 0x02C => BitVec.ofNat 32 s.queues.evq.length
  | 0x030 => s.intStatus
  | 0x034 => s.host.intEnable
  | 0x040 => s.cfg.sampleRate
  | 0x044 => s.cfg.symbolRate
  | 0x048 => s.cfg.freq.t0
  | 0x04C => s.cfg.freq.t1
  | 0x050 => s.cfg.freq.t2
  | 0x054 => s.cfg.freq.t3
  | 0x058 => s.cfg.flags.setWidth 32
  | 0x05C => s.cfg.fecStrength.setWidth 32
  | 0x060 => s.cfg.codecMode
  | 0x064 => s.cfg.hsTimeout
  | 0x080 => s.act.sampleRate
  | 0x084 => s.act.symbolRate
  | 0x088 => s.act.freq.t0
  | 0x08C => s.act.freq.t1
  | 0x090 => s.act.freq.t2
  | 0x094 => s.act.freq.t3
  | 0x098 => s.act.flagsWord
  | 0x09C => s.act.fecStrength.setWidth 32
  | 0x0A0 => s.act.codecMode
  | 0x0A4 => s.act.hsTimeout
  | 0x0A8 => s.act.sps.setWidth 32
  | 0x0AC => s.act.fcw.t0
  | 0x0B0 => s.act.fcw.t1
  | 0x0B4 => s.act.fcw.t2
  | 0x0B8 => s.act.fcw.t3
  | 0x0C0 => s.tx.symbolsTx
  | 0x0C4 => s.rx.symbolsRx
  | 0x0C8 => s.rx.syncLosses
  | 0x0CC => s.rx.timingErr.signExtend 32
  | 0x0D0 => s.rx.statusWord
  | 0x0D4 => s.rx.windowWord
  | 0x0E0 => s.fec.encodes
  | 0x0E4 => s.fec.decodes
  | 0x0E8 => s.fec.clean
  | 0x0EC => s.fec.corrected
  | 0x0F0 => s.fec.uncorrectable
  | 0x100 => s.pipe.framesLost
  | 0x104 => s.pipe.framesTx
  | 0x108 => s.pipe.framesRx
  | 0x10C => BitVec.ofNat 32 s.queues.txq.length
  | 0x110 => BitVec.ofNat 32 s.queues.rxq.length
  | 0x114 => s.queues.txqDrops
  | 0x118 => s.queues.rxqDrops
  | 0x11C => s.queues.evDrops
  | 0x120 => s.sess.hsTimer
  | _ => 0

/-- A read of `DOUT_DATA` pops one entry; on an empty `DOUT` it sets `DOUT_UNDERFLOW` (R91). -/
def State.popDout (s : State) : State :=
  match s.host.dout with
  | [] => { s with host := { s.host with doutUnderflow := true } }
  | _ :: rest => { s with host := { s.host with dout := rest } }

/-- A read of `EV_DATA` pops one event word; on an empty `EVQ` it sets `EV_UNDERFLOW` (R92). -/
def State.popEvent (s : State) : State :=
  match s.queues.evq with
  | [] => { s with host := { s.host with evUnderflow := true } }
  | _ :: rest => { s with queues := { s.queues with evq := rest } }

/-- The effect of a read: exactly two offsets have one (R100). -/
def State.readEffect (s : State) (off : Nat) : State :=
  match off with
  | 0x020 => s.popDout
  | 0x028 => s.popEvent
  | _ => s

/-- A write of `v` to `DIN_DATA` (R89). -/
def State.pushDin (s : State) (v : Word) : State :=
  if s.host.din.length < s.params.dinCap then s.setDin (s.host.din ++ [v.extractLsb' 0 16])
  else { s with host := { s.host with dinOverflow := true } }

/-- A write of `v` to a register other than `CMD` (R89, R93 to R96). Read-only and reserved offsets ignore it. -/
def State.regWrite (s : State) (off : Nat) (v : Word) : State :=
  match off with
  | 0x018 => s.pushDin v
  | 0x030 => { s with host := s.host.clearSticky v }
  | 0x034 => { s with host := { s.host with intEnable := v &&& intMask } }
  | 0x040 => { s with cfg := { s.cfg with sampleRate := v } }
  | 0x044 => { s with cfg := { s.cfg with symbolRate := v } }
  | 0x048 => { s with cfg := { s.cfg with freq := { s.cfg.freq with t0 := v } } }
  | 0x04C => { s with cfg := { s.cfg with freq := { s.cfg.freq with t1 := v } } }
  | 0x050 => { s with cfg := { s.cfg with freq := { s.cfg.freq with t2 := v } } }
  | 0x054 => { s with cfg := { s.cfg with freq := { s.cfg.freq with t3 := v } } }
  | 0x058 => { s with cfg := { s.cfg with flags := v.extractLsb' 0 2 } }
  | 0x05C => { s with cfg := { s.cfg with fecStrength := v.extractLsb' 0 8 } }
  | 0x060 => { s with cfg := { s.cfg with codecMode := v } }
  | 0x064 => { s with cfg := { s.cfg with hsTimeout := v } }
  | _ => s

/-- The byte offset of `CMD` (R83). -/
def cmdOffset : Nat := 0x008

/-- A write of `w` to `CMD`: decode it and run the command; an illegal word raises `IllegalCommand` with `OPC` and changes
nothing else (R86, R114, R118). With `BUSY = 1` the write is ignored and sets `CMD_OVERRUN` (R86; log 7). -/
def runCommand (w : Word) (s : State) : Host.Outcome State Fault Refusal :=
  if s.host.busy then .next { s with host := { s.host with cmdOverrun := true } }
  else
    match decode w with
    | .ok i => exec i s
    | .error _ => .next (s.takeError .illegalCommand (opcOf w))

/-- The state in which the first pending access is served: the access is taken from the list, and no data has been
returned for it yet (log 3, log 5). -/
def State.takeAccess (s : State) (rest : List BusAccess) : State := { s with pending := rest, rdata := none }

/-- The service of one access (R81, R86, R101, R390). -/
def serveAccess (a : BusAccess) (s : State) : Host.Outcome State Fault Refusal :=
  match a with
  | .read off width =>
    if legalAccess off width then .next { s.readEffect off with rdata := some (s.regValue off) }
    else .refused (.illegalAccess off width)
  | .write off width v =>
    if legalAccess off width then
      if off = cmdOffset then runCommand v s else .next (s.regWrite off v)
    else .refused (.illegalAccess off width)
  | .reset => .next s.hardReset

/-- The first pending access is served to completion before the next (R101); with none pending the block holds its state
(R380; log 4). -/
def serveNext (s : State) : Host.Outcome State Fault Refusal :=
  match s.pending with
  | [] => .next s
  | a :: rest => serveAccess a (s.takeAccess rest)

/-- The outside world's next access is a write of the command word `w` to `CMD`. -/
def State.withCommand (s : State) (w : Word) : State := { s with pending := .write cmdOffset 4 w :: s.pending }

end Sys2Proof.Machine
end

