-- ==== Sys2Proof/Machine/Step.lean ====
section
/-! DEFINITION. One step of the machine: the block serves one access of the host (spec/20_memory.md rule R101). -/

namespace Sys2Proof.Machine

/-- One step: serve the first pending access (R101). -/
def step (s : State) : Host.Outcome State Fault Refusal := serveNext s

/-- `s` with the command word stored where `step` takes its next instruction: as the first pending access, a host write to
`CMD` (log 3). -/
def State.withFetchWord (s : State) (nbits w : Nat) : State := s.withCommand (tableWord nbits w)

end Sys2Proof.Machine
end

