-- ==== Sys2Proof/Safety.lean ====
section
/-! DEFINITION. What a good state of the BT-Call CORE is (spec/10_state.md rule R67 and the bounds of R185, R252, R313,
R314) and the vocabulary of the claims: what a command leaves unchanged, what a host may not learn. -/

namespace Sys2Proof.Machine

/-! ## Invariants -/

/-- Every FIFO and queue is within its capacity (R67 (5)), for parameters that meet R8. -/
structure WithinCapacity (s : State) : Prop where
  params : s.params.Ok
  din : s.host.din.length ≤ s.params.dinCap
  dout : s.host.dout.length ≤ s.params.doutCap
  txq : s.queues.txq.length ≤ s.params.txqDepth
  rxq : s.queues.rxq.length ≤ s.params.rxqDepth
  evq : s.queues.evq.length ≤ s.params.evqDepth

/-- Every blob has its size, and the mailbox holds a message of `1 .. HS_MSG_MAX` bytes exactly when `HS_OUT_VALID = 1`
(R56, R57, R264). -/
structure BlobSizes (s : State) : Prop where
  sk : s.sess.sk.length = s.params.skBytes
  pk : s.sess.pk.length = 32
  peerKey : s.sess.peerKey.length = 32
  hsctx : s.sess.hsctx.length = s.params.hsctxBytes
  keys : s.sess.keys.length = s.params.keysBytes
  mailbox : s.sess.hsOutValid = true ↔ s.sess.hsOut ≠ []
  message : s.sess.hsOut.length ≤ s.params.hsMsgMax

/-- Every byte of the five secret and key registers is 0 and `KEYPAIR_VALID = 0` (R67 (6)). -/
structure SecretsZero (s : State) : Prop where
  sk : s.sess.sk = zeros s.params.skBytes
  pk : s.sess.pk = zeros 32
  peerKey : s.sess.peerKey = zeros 32
  hsctx : s.sess.hsctx = zeros s.params.hsctxBytes
  keys : s.sess.keys = zeros s.params.keysBytes
  keypair : s.sess.keypairValid = false

/-- The session registers agree with `STATE` (R55, R67 (1), (2), (6), (7)). -/
structure SessionConsistent (s : State) : Prop where
  kind : s.sess.state = .terminated ↔ s.sess.termKind ≠ .noTerm
  notStopping : s.sess.state ≠ .stopping
  reason : s.sess.termReason ≠ 0 → s.sess.termKind = .error
  role : s.sess.role = .client → s.sess.state = .handshaking ∨ s.sess.state = .established
  secrets : s.sess.state = .uninitialized ∨ s.sess.state = .terminated → SecretsZero s
  handshake : s.sess.state ≠ .handshaking → s.sess.hsTimer = 0 ∧ s.sess.hsctx = zeros s.params.hsctxBytes

/-- The active configuration passed validation, and what is derived from it is what R144 to R146 derive (R41, R42, R143). -/
structure ConfigDerived (a : ActiveCfg) : Prop where
  rates : a.sampleRate ≠ 0 ∧ a.symbolRate ≠ 0
  freqs : freqsOk a.freq = true
  strength : a.fecStrength = 32
  spsMin : 1 ≤ a.sps.toNat
  spsMax : a.sps.toNat ≤ 4096
  sps : a.sps.toNat = spsOf a.sampleRate a.symbolRate
  fcw : a.fcw = a.freq.map (fcwOf a.sampleRate)
  trackEn : a.trackEn = trackGuard a.sps.toNat a.fcw

/-- The symbol clock is inside its window and the window inside its bounds (R67 (3), R174). -/
structure WindowBounds (a : ActiveCfg) (rx : ModemRx) : Prop where
  clk : rx.clk.toNat < rx.wlen.toNat
  half : rx.half.toNat = rx.wlen.toNat / 2
  lower : a.sps.toNat - a.sps.toNat / 3 ≤ rx.wlen.toNat
  upper : rx.wlen.toNat ≤ a.sps.toNat + a.sps.toNat / 3
  fixed : a.trackEn = false → rx.wlen = a.sps

/-- Once a configuration is active, it and the symbol clock are as R67 (3) says. -/
def ModemConsistent (s : State) : Prop := s.act.cfgValid = true → ConfigDerived s.act ∧ WindowBounds s.act s.rx

/-- Each sum of a correlator is at most `n * 2^29` in magnitude (R185). -/
structure Correlator.Bounded (c : Correlator) (n : Nat) : Prop where
  ia : c.ia.toInt.natAbs ≤ n * 2 ^ 29
  qa : c.qa.toInt.natAbs ≤ n * 2 ^ 29
  ib : c.ib.toInt.natAbs ≤ n * 2 ^ 29
  qb : c.qb.toInt.natAbs ≤ n * 2 ^ 29

/-- After `CLK` samples of a window every accumulator is at most `CLK * 2^29` in magnitude, far inside 48 bits (R185). -/
def AccumulatorsBounded (s : State) : Prop := ∀ k : Symbol, (s.rx.cor.get k).Bounded s.rx.clk.toNat

/-- Until the first `SET_CONFIG` the active configuration and the whole modem, transmit and receive side, are as reset left
them (R41, R45 to R50, R70). -/
def UnconfiguredIdle (s : State) : Prop := s.act.cfgValid = false → s.act = .reset ∧ s.tx = .reset ∧ s.rx = .reset

/-- `FEC_DECODES >= FEC_CLEAN + FEC_UNCORRECTABLE` until a counter saturates (R252). -/
def FecStatsConsistent (s : State) : Prop :=
  s.fec.decodes.toNat < cntMax → s.fec.clean.toNat + s.fec.uncorrectable.toNat ≤ s.fec.decodes.toNat

/-- Frames in `TXQ` have at most `255 * 4 * 4096` samples (R313), payloads in `RXQ` at most 254 bytes (R314). -/
def FrameSizes (s : State) : Prop :=
  (∀ f ∈ s.queues.txq, f.length ≤ 255 * 4 * 4096) ∧ (∀ p ∈ s.queues.rxq, p.length ≤ 254)

/-- Every queued event word has a code of `1 .. 8`, so no event word is 0 (R92, R116). -/
def EventCodes (s : State) : Prop := ∀ w ∈ s.queues.evq, 1 ≤ (w.extractLsb' 0 8).toNat ∧ (w.extractLsb' 0 8).toNat ≤ 8

/-- `BUSY` is 0 at every access (R36) and only the implemented bits of `INT_ENABLE` are set (R93). -/
def InterfaceIdle (s : State) : Prop := s.host.busy = false ∧ s.host.intEnable &&& intMask = s.host.intEnable

/-! ## Runs -/

/-- A state reached from `s` by steps of the machine. -/
inductive Reaches (s : State) : State → Prop where
  | refl : Reaches s s
  | step {t u : State} : Reaches s t → Machine.step t = .next u → Reaches s u

/-! ## Vocabulary of the claims -/

/-- The state in which the body of a format Z or LI command runs and, on success, ends: both results and `ERR` cleared
(R118 steps 4 and 6). -/
def State.cleared (s : State) : State :=
  { s with host := { s.host with result0 := 0, result1 := 0, errCode := 0, errDetail := 0 } }

/-- A raised error of a format Z or LI command: results cleared, `ERR` and `CMD_ERR` written, nothing else (R19, R369). -/
def State.raisedZ (s : State) (code detail : Byte) : State :=
  { s with host := { s.host with result0 := 0, result1 := 0, errCode := code, errDetail := detail, cmdErr := true } }

/-- A raised error of a format LD command: the operand is consumed as well (R19, R118 step 3). -/
def State.raisedLD (s : State) (code detail : Byte) : State :=
  { s with host := { s.host with
      din := [], result0 := 0, result1 := 0, errCode := code, errDetail := detail, cmdErr := true } }

/-- Everything but the host interface is the same. -/
structure OnlyHostChanged (s t : State) : Prop where
  params : t.params = s.params
  pending : t.pending = s.pending
  rdata : t.rdata = s.rdata
  cfg : t.cfg = s.cfg
  act : t.act = s.act
  tx : t.tx = s.tx
  rx : t.rx = s.rx
  fec : t.fec = s.fec
  sess : t.sess = s.sess
  pipe : t.pipe = s.pipe
  queues : t.queues = s.queues

/-- The host interface after a format LD command that succeeded and appended `out` to `DOUT`: `DIN` empty, the two results
as given, `ERR` cleared, every other field as before (R118, R19). -/
def HostIf.afterLD (h : HostIf) (out : List Entry) (r0 r1 : Word) : HostIf :=
  { h with din := [], dout := h.dout ++ out, result0 := r0, result1 := r1, errCode := 0, errDetail := 0 }

/-- The same for a format Z or LI command: `DIN` as before. -/
def HostIf.afterZ (h : HostIf) (out : List Entry) (r0 r1 : Word) : HostIf :=
  { h with dout := h.dout ++ out, result0 := r0, result1 := r1, errCode := 0, errDetail := 0 }

/-- The receive side after `modem_reset()` under active configuration `a`: everything cleared but the two counters, `WLEN`
and `HALF` from `ACT_SPS` (R180). -/
def rxAfterReset (a : ActiveCfg) (rx : ModemRx) : ModemRx where
  clk := 0
  wlen := a.sps
  half := BitVec.ofNat 12 (a.sps.toNat / 2)
  cor := .all .zero
  shreg := 0
  nsym := 0
  locked := false
  lockq := 0
  timingErr := 0
  symbolsRx := rx.symbolsRx
  syncLosses := rx.syncLosses

/-- Exactly one event word `w` was appended to `EVQ`, the oldest dropped and counted if it was full (R316). -/
structure EventAppended (s t : State) (w : Word) : Prop where
  evq : t.queues.evq =
    (if s.queues.evq.length = s.params.evqDepth then s.queues.evq.tail else s.queues.evq) ++ [w]
  drops : t.queues.evDrops =
    if s.queues.evq.length = s.params.evqDepth then satInc s.queues.evDrops else s.queues.evDrops
  flag : t.host.queueDrop = (s.host.queueDrop || decide (s.queues.evq.length = s.params.evqDepth))

/-- No event was emitted and none dropped. -/
structure NoEvent (s t : State) : Prop where
  evq : t.queues.evq = s.queues.evq
  drops : t.queues.evDrops = s.queues.evDrops
  flag : t.host.queueDrop = s.host.queueDrop

/-- What every teardown leaves and what it keeps (R272, R393): mailbox, timer, hangup flags, role, the two data FIFOs and
the two frame queues cleared, the modem reset, configuration, counters and interrupt enables kept. -/
structure TornDown (s t : State) : Prop where
  mailbox : t.sess.hsOut = [] ∧ t.sess.hsOutValid = false ∧ t.sess.hsTimer = 0
  hangups : t.sess.hangupLocalSent = false ∧ t.sess.hangupRemotePending = false ∧ t.sess.hangupRemoteLatch = false
  role : t.sess.role = .server
  blobs : t.sess.peerKey = zeros 32 ∧ t.sess.hsctx = zeros s.params.hsctxBytes ∧ t.sess.keys = zeros s.params.keysBytes
  fifos : t.host.din = [] ∧ t.host.dout = [] ∧ t.queues.txq = [] ∧ t.queues.rxq = []
  modem : t.tx = { s.tx with phase := 0 } ∧ t.rx = rxAfterReset s.act s.rx
  configuration : t.cfg = s.cfg ∧ t.act = s.act
  counters : t.fec = s.fec ∧ t.pipe = s.pipe ∧ t.queues.txqDrops = s.queues.txqDrops ∧ t.queues.rxqDrops = s.queues.rxqDrops
  interface : t.host.intEnable = s.host.intEnable ∧ t.host.busy = s.host.busy ∧ t.host.dinOverflow = s.host.dinOverflow ∧
    t.host.doutUnderflow = s.host.doutUnderflow ∧ t.host.evUnderflow = s.host.evUnderflow ∧
    t.host.cmdOverrun = s.host.cmdOverrun
  rest : t.params = s.params ∧ t.pending = s.pending ∧ t.rdata = s.rdata

/-- The session is `Terminated(Error)` with the reason recorded and every secret zero (R274, R275). -/
structure TerminatedError (t : State) (reason : Byte) : Prop where
  state : t.sess.state = .terminated
  kind : t.sess.termKind = .error
  reason : t.sess.termReason = reason
  secrets : SecretsZero t

/-- The start command of a role (R278, R279). -/
def startCommand : Role → Nat → Instr
  | .server, n => .startServer n
  | .client, n => .startClient n

/-- The state after the outbound pipeline queued a frame of `bytes` (R320), from the state `s` in which the body ran;
`din` is what `DIN` holds after the command. -/
def frameQueued (s : State) (din : List Entry) (keys bytes : List Byte) (hangup : Bool) : State :=
  let full := decide (s.queues.txq.length = s.params.txqDepth)
  { s with
    host := { s.host with
      din := din
      result0 := BitVec.ofNat 32 (bytes.length * 4 * s.act.sps.toNat)
      result1 := 0
      errCode := 0
      errDetail := 0
      queueDrop := s.host.queueDrop || full }
    tx := (txBytes s.act bytes s.tx).1
    fec := { s.fec with encodes := if s.act.fecEn then satInc s.fec.encodes else s.fec.encodes }
    sess := { s.sess with keys := keys, hangupLocalSent := s.sess.hangupLocalSent || hangup }
    pipe := { s.pipe with framesTx := satInc s.pipe.framesTx }
    queues := { s.queues with
      txq := (if full then s.queues.txq.tail else s.queues.txq) ++ [(txBytes s.act bytes s.tx).2]
      txqDrops := if full then satInc s.queues.txqDrops else s.queues.txqDrops } }

/-- The phase increments of a list of symbols, each sent for `ACT_SPS` samples (R163). -/
def phaseTravel (a : ActiveCfg) (vs : List Symbol) : Nat := (vs.map (fun v => a.sps.toNat * (a.fcw.get v).toNat)).sum

/-- The sample of the modulator's output at position `j` of symbol number `k` of the symbols `vs` (R163): the sine at the
phase reached after `k` whole symbols and `j` further samples of symbol `k`. -/
def sampleAt (a : ActiveCfg) (phase : Word) (vs : List Symbol) (k j : Nat) : Entry :=
  u16 (sinOf (phase + BitVec.ofNat 32 (phaseTravel a (vs.take k) + j * (a.fcw.get (vs.getD k 0)).toNat)))

/-- The four correlators of `rx'` are those of `rx` after the sample `x` under the frequency words `fcw`, and `CLK` counted
it: the products go to the first half-window sums while `CLK < HALF`, else to the second, as exact integers, and every
reference phase advances; nothing else changes (R170). -/
structure SampleTaken (fcw : Tones Word) (x : Int) (rx rx' : ModemRx) : Prop where
  first : rx.clk.toNat < rx.half.toNat → ∀ k : Symbol,
    (rx'.cor.get k).ia.toInt = (rx.cor.get k).ia.toInt + x * cosOf (rx.cor.get k).ph ∧
    (rx'.cor.get k).qa.toInt = (rx.cor.get k).qa.toInt + x * sinOf (rx.cor.get k).ph ∧
    (rx'.cor.get k).ib = (rx.cor.get k).ib ∧ (rx'.cor.get k).qb = (rx.cor.get k).qb
  second : rx.half.toNat ≤ rx.clk.toNat → ∀ k : Symbol,
    (rx'.cor.get k).ia = (rx.cor.get k).ia ∧ (rx'.cor.get k).qa = (rx.cor.get k).qa ∧
    (rx'.cor.get k).ib.toInt = (rx.cor.get k).ib.toInt + x * cosOf (rx.cor.get k).ph ∧
    (rx'.cor.get k).qb.toInt = (rx.cor.get k).qb.toInt + x * sinOf (rx.cor.get k).ph
  phase : ∀ k : Symbol, (rx'.cor.get k).ph = (rx.cor.get k).ph + fcw.get k
  clk : rx'.clk.toNat = rx.clk.toNat + 1
  rest : rx' = { rx with cor := rx'.cor, clk := rx'.clk }

/-- `rx'` and the byte `out` are what the end of the window of `rx` leaves, under active configuration `a`, written out in
integers: the energies (R171), the symbol (R172), `TE` (R173), `CORR` (R174), the lock detector (R175), the byte assembler
(R176), the restart with `ACT_SPS - CORR` samples (R177). -/
def WindowEnded (a : ActiveCfg) (rx rx' : ModemRx) (out : Option Byte) : Prop :=
  let i := fun k : Symbol => ((rx.cor.get k).ia.toInt + (rx.cor.get k).ib.toInt) / 65536
  let q := fun k : Symbol => ((rx.cor.get k).qa.toInt + (rx.cor.get k).qb.toInt) / 65536
  let e := fun k : Symbol => i k * i k + q k * q k
  let etot := e 0 + e 1 + e 2 + e 3
  ∃ sym : Symbol, (∀ j, e j ≤ e sym) ∧ (∀ j < sym, e j < e sym) ∧
    let ea := ((rx.cor.get sym).ia.toInt / 65536) ^ 2 + ((rx.cor.get sym).qa.toInt / 65536) ^ 2
    let eb := ((rx.cor.get sym).ib.toInt / 65536) ^ 2 + ((rx.cor.get sym).qb.toInt / 65536) ^ 2
    let te : Int := if a.trackEn = true ∧ 0 < ea + eb then Int.tdiv ((ea - eb) * rx.half.toNat) (ea + eb) else 0
    let db : Int := max 1 ((rx.half.toNat : Int) / 4)
    let corr : Int := if a.trackEn = true ∧ db ≤ |te| then Int.tdiv te 2 else 0
    let lockq : Int :=
      if 2 * etot < 3 * e sym ∧ |te| < db then min ((rx.lockq.toNat : Int) + 1) 15 else max ((rx.lockq.toNat : Int) - 2) 0
    let byte := (4 * rx.shreg.toNat + sym.val) % 256
    rx'.timingErr.toInt = te ∧
    (rx'.lockq.toNat : Int) = lockq ∧
    (rx'.locked = true ↔ (rx.locked = false ∧ 8 ≤ lockq) ∨ (rx.locked = true ∧ lockq ≠ 0)) ∧
    rx'.syncLosses.toNat =
      (if rx.locked = true ∧ lockq = 0 then min (rx.syncLosses.toNat + 1) (2 ^ 32 - 1) else rx.syncLosses.toNat) ∧
    rx'.symbolsRx.toNat = min (rx.symbolsRx.toNat + 1) (2 ^ 32 - 1) ∧
    (if rx.nsym.toNat = 3 then out = some (BitVec.ofNat 8 byte) ∧ rx'.shreg = 0 ∧ rx'.nsym = 0
      else out = none ∧ rx'.shreg.toNat = byte ∧ rx'.nsym.toNat = rx.nsym.toNat + 1) ∧
    (∀ k, rx'.cor.get k = { ph := 0, ia := 0, qa := 0, ib := 0, qb := 0 }) ∧
    rx'.clk = 0 ∧ (rx'.wlen.toNat : Int) = a.sps.toNat - corr ∧ rx'.half.toNat = rx'.wlen.toNat / 2

/-- `EVQ`, `EV_DROPS` and `QUEUE_DROP` after the event words `ws` were emitted in order into a queue of `depth` (R316). -/
def eventQueueAfter (depth : Nat) : List Word → List Word × Word × Bool → List Word × Word × Bool
  | [], q => q
  | w :: ws, (evq, drops, flag) =>
    eventQueueAfter depth ws
      (if evq.length = depth then (evq.tail ++ [w], satInc drops, true) else (evq ++ [w], drops, flag))

/-- `s` after the event words `ws` were emitted in order, and nothing else (R316). -/
def State.announced (s : State) (ws : List Word) : State :=
  let q := eventQueueAfter s.params.evqDepth ws (s.queues.evq, s.queues.evDrops, s.host.queueDrop)
  { s with
    host := { s.host with queueDrop := q.2.2 }
    queues := { s.queues with evq := q.1, evDrops := q.2.1 } }

/-- The state in which a start command takes the collaborator's answer: operand consumed, results cleared, peer key and role
set, flags and mailbox cleared, `Handshaking`, the event emitted (R118, R280). -/
def handshakeBegun (s : State) (role : Role) (peer : List Byte) : State :=
  State.announced
    { s with
      host := { s.host with din := [], result0 := 0, result1 := 0 }
      sess := { s.sess with
        role := role, peerKey := peer, state := .handshaking, hsOut := [], hsOutValid := false
        hangupLocalSent := false, hangupRemotePending := false, hangupRemoteLatch := false } }
    [match role with | .server => 0x00000001 | .client => 0x00000101]

/-- What a frame's fate fixes when `HANDLE_INCOMING_FRAME` succeeds (R325): the results, the next keys, the FEC statistics,
the event words in order, the payload queued for the speaker if any, whether the frame was a hangup, whether it is lost. -/
structure FrameFate where
  result0 : Word
  result1 : Word
  keys : List Byte
  fec : FecStats
  events : List Word
  payload : Option (List Byte)
  hangup : Bool
  lost : Bool
  deriving DecidableEq, Repr

/-- The state after `HANDLE_INCOMING_FRAME` gave the frame the fate `f`; `rx` is the receive side after its samples (R325,
R315, R316, R326). -/
def incomingEnd (s : State) (rx : ModemRx) (f : FrameFate) : State :=
  let full := f.payload.isSome && decide (s.queues.rxq.length = s.params.rxqDepth)
  State.announced
    { s with
      host := { s.host.afterLD [] f.result0 f.result1 with queueDrop := s.host.queueDrop || full }
      rx := rx
      fec := f.fec
      sess := { s.sess with
        keys := f.keys
        hangupRemotePending := s.sess.hangupRemotePending || f.hangup
        hangupRemoteLatch := s.sess.hangupRemoteLatch || f.hangup }
      pipe := { s.pipe with
        framesRx := satInc s.pipe.framesRx
        framesLost := if f.lost then satInc s.pipe.framesLost else s.pipe.framesLost }
      queues := { s.queues with
        rxq := (if full then s.queues.rxq.tail else s.queues.rxq) ++ f.payload.toList
        rxqDrops := if full then satInc s.queues.rxqDrops else s.queues.rxqDrops } }
    f.events

/-- A fate turned into a loss: one more `frame_lost` event, `FRAMES_LOST` counted, `RESULT0` as given (R325, R326). -/
def FrameFate.asLost (f : FrameFate) (reason : Nat) (result0 : Word) : FrameFate :=
  { f with result0 := result0, events := f.events ++ [BitVec.ofNat 32 (reason * 256 + 6)], lost := true }

/-- The end of `HANDLE_INCOMING_FRAME` of `len` samples once the ciphertext `ct` is known, all of R325 from there on, `f`
being the fate so far, by the collaborator's checked answer (new keys of a wrong length count as `Fatal`: log 10): a
ciphertext too short is malformed (reason 1, `RESULT0` 2); `Reject` is a loss (reason 3, `RESULT0`
4) and `Fatal` ends the session (R275); a plaintext is delivered by its type byte (R311): 0 queued for the speaker
(`RESULT0` 0), 1 a hangup (`RESULT0` 1), any other lost (reason 1, `RESULT0` 2). -/
def CiphertextDecides (s : State) (len : Nat) (rx : ModemRx) (f : FrameFate) (ct : List Byte) : Prop :=
  let ends := fun g : FrameFate => exec (.handleIncomingFrame len) s = .next (incomingEnd s rx g)
  let answer := decChecked s.params ct.length (xDecrypt s.params s.sess.keys ct)
  (ct.length ≤ s.params.aeadOverhead → ends (f.asLost 1 2)) ∧
  (s.params.aeadOverhead < ct.length →
    (∀ keys, answer = .reject keys → ends ({ f with keys := keys }.asLost 3 4)) ∧
    (∀ keys type payload, answer = .ok keys (type :: payload) →
      (type = 0x00 → ends { f with keys := keys, payload := some payload }) ∧
      (type = 0x01 → ends { f with keys := keys, result0 := 1, hangup := true }) ∧
      (type ≠ 0x00 → type ≠ 0x01 → ends ({ f with keys := keys }.asLost 1 2))) ∧
    (answer = .fatal →
      ∃ t, exec (.handleIncomingFrame len) s = .next t ∧ TornDown (incomingEnd s rx f) t ∧ TerminatedError t 4 ∧
        EventAppended (incomingEnd s rx f) t 0x00000407 ∧ t.host.errCode = 0x14 ∧ t.host.errDetail = 4 ∧
        t.host.cmdErr = true ∧ t.host.result0 = 0 ∧ t.host.result1 = f.result1))

/-- A codeword: the word's polynomial has the 32 roots of the generator (R214). -/
def IsCodeword (r : List Byte) : Prop := ∀ j : Nat, j < 32 → hornerEval r (apow j) = 0

/-- The two states agree in everything but the five secret and key registers (R56). -/
def SameButSecrets (s t : State) : Prop :=
  t = { s with sess := { s.sess with
    sk := t.sess.sk, pk := t.sess.pk, peerKey := t.sess.peerKey, hsctx := t.sess.hsctx, keys := t.sess.keys } }

/-- Two outcomes that agree in everything but the five secret and key registers. -/
def OutcomeSameButSecrets : Host.Outcome State Fault Refusal → Host.Outcome State Fault Refusal → Prop
  | .next s, .next t => SameButSecrets s t
  | .fault a, .fault b => a = b
  | .refused a, .refused b => a = b
  | .next _, .fault _ => False
  | .next _, .refused _ => False
  | .fault _, .next _ => False
  | .fault _, .refused _ => False
  | .refused _, .next _ => False
  | .refused _, .fault _ => False

/-- The commands whose bodies hand a secret or key register to a collaborator (R280, R286, R320, R325). -/
def usesSecrets : Instr → Bool
  | .nop => false
  | .setConfig => false
  | .dioFlush => false
  | .modemReset => false
  | .samplesForBytes _ => false
  | .modulate _ => false
  | .demodulate _ => false
  | .fecEncode _ => false
  | .fecDecode _ => false
  | .fecEncodedLen _ => false
  | .fecDataLen _ => false
  | .initializeSession _ => false
  | .startServer _ => true
  | .startClient _ => true
  | .stopSession => false
  | .derivePubkey _ => false
  | .sendHangup => true
  | .consumeRemoteHangup => false
  | .hsRead => false
  | .hsWrite _ => true
  | .tick => false
  | .feedMicFrame _ => true
  | .handleIncomingFrame _ => true
  | .generateOutgoingFrame => false
  | .pullSpeakerFrame => false

/-- No statistics counter of `t` is below that of `s` (R13, R53). -/
structure CountersGrow (s t : State) : Prop where
  symbolsTx : s.tx.symbolsTx.toNat ≤ t.tx.symbolsTx.toNat
  symbolsRx : s.rx.symbolsRx.toNat ≤ t.rx.symbolsRx.toNat
  syncLosses : s.rx.syncLosses.toNat ≤ t.rx.syncLosses.toNat
  encodes : s.fec.encodes.toNat ≤ t.fec.encodes.toNat
  decodes : s.fec.decodes.toNat ≤ t.fec.decodes.toNat
  clean : s.fec.clean.toNat ≤ t.fec.clean.toNat
  corrected : s.fec.corrected.toNat ≤ t.fec.corrected.toNat
  uncorrectable : s.fec.uncorrectable.toNat ≤ t.fec.uncorrectable.toNat
  framesTx : s.pipe.framesTx.toNat ≤ t.pipe.framesTx.toNat
  framesRx : s.pipe.framesRx.toNat ≤ t.pipe.framesRx.toNat
  framesLost : s.pipe.framesLost.toNat ≤ t.pipe.framesLost.toNat
  txqDrops : s.queues.txqDrops.toNat ≤ t.queues.txqDrops.toNat
  rxqDrops : s.queues.rxqDrops.toNat ≤ t.queues.rxqDrops.toNat
  evDrops : s.queues.evDrops.toNat ≤ t.queues.evDrops.toNat

/-- The transition table of `STATE` (R270), but for hardware reset: command, from, to. -/
def sessionMove : Instr → SessState → SessState → Bool
  | .initializeSession 32, _, .idle => true
  | .startServer 32, .idle, .handshaking => true
  | .startServer 32, .idle, .established => true
  | .startServer 32, .idle, .terminated => true
  | .startClient 32, .idle, .handshaking => true
  | .startClient 32, .idle, .established => true
  | .startClient 32, .idle, .terminated => true
  | .hsWrite _, .handshaking, .handshaking => true
  | .hsWrite _, .handshaking, .established => true
  | .hsWrite _, .handshaking, .terminated => true
  | .tick, .handshaking, .terminated => true
  | .feedMicFrame _, .established, .terminated => true
  | .sendHangup, .established, .terminated => true
  | .handleIncomingFrame _, .established, .terminated => true
  | .stopSession, _, .terminated => true
  | _, _, _ => false

end Sys2Proof.Machine
end

