-- ==== Sys2Proof/Certificates/Slice0/Obligations.lean ====
section
/-! DEFINITION. The statements about the model, one `def Obligations.<Name> : Prop` each. Every docstring names the rules
of spec/ the statement rests on. -/

open Sys2Proof Sys2Proof.Machine

/-! ## Encoding -/

/-- R110, R111, R112, R115: decoding the word of a well-formed command gives the command back, for every `LEN` its field
admits; and a word that decodes is the word of a well-formed command, so no two words decode to one command. -/
def Obligations.DecodeAndEncodeAreInverse : Prop :=
  (∀ i : Instr, i.WellFormed → decode (encode i) = .ok i) ∧
    ∀ (w : Word) (i : Instr), decode w = .ok i → i.WellFormed ∧ encode i = w

/-- R114: which words are illegal (an unassigned opcode, of which there are 231, or a format Z opcode with one of bits 31:8
set), and what an illegal word does when it is written to `CMD`: `IllegalCommand` with `OPC`, and nothing else. -/
def Obligations.IllegalWordsRaiseAndChangeNothingElse : Prop :=
  let zCodes : List Nat :=
    [0x00, 0x01, 0x02, 0x10, 0x33, 0x35, 0x36, 0x37, 0x39, 0x42, 0x43]
  let codes : List Nat :=
    zCodes ++ [0x11, 0x12, 0x13, 0x20, 0x21, 0x22, 0x23, 0x30, 0x31, 0x32, 0x34, 0x38, 0x40, 0x41]
  (∀ w : Word, (∃ e, decode w = .error e) ↔
      ((w.extractLsb' 0 8).toNat ∉ codes ∨
        ((w.extractLsb' 0 8).toNat ∈ zCodes ∧ w.extractLsb' 8 24 ≠ 0))) ∧
    ((List.range 256).filter (fun c => !codes.contains c)).length = 231 ∧
    ∀ (s : State) (rest : List BusAccess) (w : Word) (e : DecodeError),
      s.pending = .write 0x008 4 w :: rest → s.host.busy = false → decode w = .error e →
      step s = .next { s with
        pending := rest
        rdata := none
        host := { s.host with errCode := 0x10, errDetail := w.extractLsb' 0 8, cmdErr := true } }

/-- R112, R113: words written out from the opcode map, one or more of each family, decode to the command they stand for. -/
def Obligations.SampleWordsDecodeAsTheOpcodeMapSays : Prop :=
  decode 0x00000000 = .ok .nop ∧ decode 0x00000001 = .ok .setConfig ∧
  decode 0xFFFFFF11 = .ok (.samplesForBytes 16777215) ∧ decode 0x00028013 = .ok (.demodulate 640) ∧
  decode 0x00002521 = .ok (.fecDecode 37) ∧ decode 0x00002030 = .ok (.initializeSession 32) ∧
  decode 0x00000033 = .ok .stopSession ∧ decode 0x005C8041 = .ok (.handleIncomingFrame 23680) ∧
  decode 0x00000133 = .error .nonzeroUpper ∧ decode 0x0000003A = .error .unassignedOpcode

/-! ## The step -/

/-- R81, R86, R101 (the list of accesses still to come is the model's own, log 3, and so is that a step with none pending
holds the state, log 4): a step serves exactly the first pending access, in the state without that access and with no data
returned yet. When that is a legal write of a command word to `CMD`, the step is `exec` of the decoded command there; an
access that is not an aligned 32-bit access inside `0x000 .. 0x1FF` is refused. -/
def Obligations.StepRunsTheDecodedCommand : Prop :=
  (∀ (s : State) (a : BusAccess) (rest : List BusAccess), s.pending = a :: rest →
      step s = serveAccess a { s with pending := rest, rdata := none }) ∧
    (∀ s : State, s.pending = [] → step s = .next s) ∧
    (∀ (s : State) (rest : List BusAccess) (w : Word) (i : Instr),
      s.pending = .write 0x008 4 w :: rest → s.host.busy = false → decode w = .ok i →
      step s = exec i { s with pending := rest, rdata := none }) ∧
    (∀ (s : State) (rest : List BusAccess) (off width : Nat),
      ¬(width = 4 ∧ off % 4 = 0 ∧ off < 0x200) →
      (s.pending = .read off width :: rest → step s = .refused (.illegalAccess off width)) ∧
        ∀ v, s.pending = .write off width v :: rest → step s = .refused (.illegalAccess off width))

/-- R19, R94, R142, R147, R366: every command answers a next state, whatever the state and the operand; none of them
touches the shadow configuration, the interrupt enables or a sticky bit other than `CMD_ERR` and `QUEUE_DROP`; only
`SET_CONFIG` touches the active configuration. -/
def Obligations.CommandsAlwaysAnswerAndKeepTheConfiguration : Prop :=
  ∀ (i : Instr) (s : State), ∃ t, exec i s = .next t ∧
    t.params = s.params ∧ t.pending = s.pending ∧ t.rdata = s.rdata ∧ t.cfg = s.cfg ∧
    t.host.intEnable = s.host.intEnable ∧ t.host.busy = s.host.busy ∧ t.host.dinOverflow = s.host.dinOverflow ∧
    t.host.doutUnderflow = s.host.doutUnderflow ∧ t.host.evUnderflow = s.host.evUnderflow ∧
    t.host.cmdOverrun = s.host.cmdOverrun ∧ (s.host.cmdErr = true → t.host.cmdErr = true) ∧
    (s.host.queueDrop = true → t.host.queueDrop = true) ∧ (i ≠ .setConfig → t.act = s.act)

/-! ## Reset -/

/-- R70, R390, R391 (that no access is pending and none has returned data is the model's choice, logs 3 and 5): the value of
every piece of state after reset, for any parameters; a reset step reaches it from every
state. -/
def Obligations.ResetGivesEveryRegisterItsValue : Prop :=
  (∀ (s : State) (rest : List BusAccess), s.pending = .reset :: rest →
      step s = .next { State.resetWith s.params with pending := rest }) ∧
    ∀ p : Params,
      let s := State.resetWith p
      s.host.din = [] ∧ s.host.dout = [] ∧ s.queues.txq = [] ∧ s.queues.rxq = [] ∧ s.queues.evq = [] ∧
      s.sess.hsOut = [] ∧ s.host.result0 = 0 ∧ s.host.result1 = 0 ∧ s.host.errCode = 0 ∧ s.host.errDetail = 0 ∧
      s.host.busy = false ∧ s.intStatus = 0 ∧ s.host.intEnable = 0 ∧ s.irq = false ∧
      s.cfg.sampleRate = 0 ∧ s.cfg.symbolRate = 0 ∧ (∀ k, s.cfg.freq.get k = 0) ∧ s.cfg.flags = 0 ∧
      s.cfg.codecMode = 0 ∧ s.cfg.hsTimeout = 0 ∧ s.cfg.fecStrength = 32 ∧
      s.act.sampleRate = 0 ∧ s.act.symbolRate = 0 ∧ (∀ k, s.act.freq.get k = 0) ∧ s.act.fecEn = false ∧
      s.act.debugLog = false ∧ s.act.fecStrength = 0 ∧ s.act.codecMode = 0 ∧ s.act.hsTimeout = 0 ∧
      s.act.cfgValid = false ∧ s.act.sps = 0 ∧ (∀ k, s.act.fcw.get k = 0) ∧ s.act.trackEn = false ∧
      s.tx.phase = 0 ∧ (∀ k, s.rx.cor.get k = { ph := 0, ia := 0, qa := 0, ib := 0, qb := 0 }) ∧
      s.rx.clk = 0 ∧ s.rx.wlen = 0 ∧ s.rx.half = 0 ∧ s.rx.shreg = 0 ∧ s.rx.nsym = 0 ∧ s.rx.locked = false ∧
      s.rx.lockq = 0 ∧ s.rx.timingErr = 0 ∧ s.tx.symbolsTx = 0 ∧ s.rx.symbolsRx = 0 ∧ s.rx.syncLosses = 0 ∧
      s.fec.encodes = 0 ∧ s.fec.decodes = 0 ∧ s.fec.clean = 0 ∧ s.fec.corrected = 0 ∧ s.fec.uncorrectable = 0 ∧
      s.pipe.framesTx = 0 ∧ s.pipe.framesRx = 0 ∧ s.pipe.framesLost = 0 ∧ s.queues.txqDrops = 0 ∧
      s.queues.rxqDrops = 0 ∧ s.queues.evDrops = 0 ∧ s.sess.state = .uninitialized ∧ s.sess.role = .server ∧
      s.sess.termKind = .noTerm ∧ s.sess.termReason = 0 ∧ s.sess.hsOutValid = false ∧ s.sess.hsTimer = 0 ∧
      s.sess.hangupLocalSent = false ∧ s.sess.hangupRemotePending = false ∧ s.sess.hangupRemoteLatch = false ∧
      SecretsZero s ∧ s.statusWord = 0 ∧ s.act.flagsWord = 0 ∧ s.rx.statusWord = 0 ∧ s.rx.windowWord = 0

/-- R67, R70: every invariant below holds in the reset state of a block whose parameters meet R8. -/
def Obligations.InvariantsHoldAtReset : Prop :=
  ∀ p : Params, p.Ok →
    let s := State.resetWith p
    WithinCapacity s ∧ BlobSizes s ∧ SessionConsistent s ∧ ModemConsistent s ∧ UnconfiguredIdle s ∧
      AccumulatorsBounded s ∧ FecStatsConsistent s ∧ FrameSizes s ∧ EventCodes s ∧ InterfaceIdle s

/-! ## Invariants that every step keeps -/

/-- R41, R42, R67 (3), R143 to R146, R174, R177: the active configuration stays valid and consistently derived, the symbol
clock stays inside its window and the window inside `ACT_SPS - floor(ACT_SPS/3) .. ACT_SPS + floor(ACT_SPS/3)`; before the
first `SET_CONFIG` the active configuration and the whole modem, transmit and receive side, stay as reset left them. -/
def Obligations.StepKeepsWindowAndConfiguration : Prop :=
  ∀ s t : State, ModemConsistent s → UnconfiguredIdle s → step s = .next t → ModemConsistent t ∧ UnconfiguredIdle t

/-- R55, R67 (1) (2) (6) (7), R272: the session registers stay consistent with `STATE`; in particular every secret is zero
whenever the session is `Uninitialized` or `Terminated`. -/
def Obligations.StepKeepsSecretsZeroOutsideASession : Prop :=
  ∀ s t : State, SessionConsistent s → step s = .next t → SessionConsistent t

/-- R67 (5), R315, R316, R359: no FIFO or queue ever exceeds its capacity. -/
def Obligations.StepKeepsEveryQueueWithinCapacity : Prop :=
  ∀ s t : State, WithinCapacity s → step s = .next t → WithinCapacity t

/-- R56, R57, R263 to R267, with the model's reading of results of a wrong shape (logs 9, 10, 11): every blob keeps its size, whatever the collaborator answers, and the mailbox holds a message
of `1 .. HS_MSG_MAX` bytes exactly when `HS_OUT_VALID = 1`. -/
def Obligations.StepKeepsBlobSizes : Prop :=
  ∀ s t : State, BlobSizes s → step s = .next t → BlobSizes t

/-- R170, R185: no accumulator ever leaves `CLK * 2^29` in magnitude, so none overflows its 48 bits. -/
def Obligations.StepKeepsAccumulatorsBounded : Prop :=
  ∀ s t : State, ModemConsistent s → AccumulatorsBounded s → step s = .next t → AccumulatorsBounded t

/-- R313, R314, R320, R325: frames in `TXQ` have at most `255 * 4 * 4096` samples, payloads in `RXQ` at most 254 bytes. -/
def Obligations.StepKeepsFrameSizes : Prop :=
  ∀ s t : State, ModemConsistent s → FrameSizes s → step s = .next t → FrameSizes t

/-- R36, R92, R93, R116, R252: `BUSY` is never seen as 1, only implemented interrupt enables are set, every queued event
has a code of 1 to 8, and `FEC_DECODES >= FEC_CLEAN + FEC_UNCORRECTABLE` until a counter saturates. -/
def Obligations.StepKeepsEventsAndStatisticsSound : Prop :=
  ∀ s t : State, InterfaceIdle s → EventCodes s → FecStatsConsistent s → step s = .next t →
    InterfaceIdle t ∧ EventCodes t ∧ FecStatsConsistent t

/-- R13, R41, R53, R391: no step but the hardware reset ever decreases a statistics counter or clears `CFG_VALID`. -/
def Obligations.CountersNeverDecreaseExceptAtReset : Prop :=
  ∀ s t : State, (∀ rest, s.pending ≠ .reset :: rest) → step s = .next t →
    CountersGrow s t ∧ (s.act.cfgValid = true → t.act.cfgValid = true)

/-- R270: a command changes `STATE` only along a row of the transition table. -/
def Obligations.SessionMovesOnlyAlongTheTransitionTable : Prop :=
  ∀ (i : Instr) (s t : State), exec i s = .next t →
    t.sess.state = s.sess.state ∨ sessionMove i s.sess.state t.sess.state = true

/-! ## Isolation of the secrets -/

/-- R56, R375: no register read returns anything that depends on a secret or key register. -/
def Obligations.NoRegisterReadRevealsASecret : Prop :=
  ∀ (s t : State) (off width : Nat), SameButSecrets s t →
    OutcomeSameButSecrets (serveAccess (.read off width) s) (serveAccess (.read off width) t)

/-- R56, R375: a command that hands no secret to the collaborator has the same visible outcome whatever the secrets are.
(`INITIALIZE` and `DERIVE_PUBKEY` call the collaborator with the seed alone; that it answers equal seeds equally is R263 read
as log 18 says.) -/
def Obligations.CommandsWithoutTheCollaboratorRevealNoSecret : Prop :=
  ∀ (i : Instr) (s t : State), usesSecrets i = false → SameButSecrets s t →
    OutcomeSameButSecrets (exec i s) (exec i t)

/-! ## Housekeeping and configuration -/

/-- R140, R148, R180: `NOP` clears `ERR` and the results; `DIO_FLUSH` empties both FIFOs and returns what they held;
`MODEM_RESET` clears the modem but for its counters. Nothing else changes. -/
def Obligations.NopFlushAndModemResetDoExactlyThis : Prop :=
  ∀ s : State,
    exec .nop s = .next s.cleared ∧
    exec .dioFlush s = .next { s with host := { s.host with
      din := []
      dout := []
      result0 := BitVec.ofNat 32 s.host.din.length
      result1 := BitVec.ofNat 32 s.host.dout.length
      errCode := 0
      errDetail := 0 } } ∧
    exec .modemReset s = .next { s.cleared with
      tx := { s.tx with phase := 0 }
      rx := rxAfterReset s.act s.rx }

/-- R142, R144, R145, R146, R147: what a valid `SET_CONFIG` activates, derives and returns, when it resets the modem, and
what it leaves alone. -/
def Obligations.SetConfigActivatesAValidConfiguration : Prop :=
  ∀ s : State,
    let fs := s.cfg.sampleRate.toNat
    let q := s.cfg.symbolRate.toNat
    let sps := (2 * fs * 65536 + q) / (2 * q)
    let fcw := fun k : Symbol => (s.cfg.freq.get k).toNat * 2 ^ 32 / fs % 2 ^ 32
    let dist := fun k : Symbol => min (2 * fcw k % 2 ^ 32) (2 ^ 32 - 2 * fcw k % 2 ^ 32)
    let changed := s.act.cfgValid = false ∨ s.cfg.sampleRate ≠ s.act.sampleRate ∨ s.cfg.symbolRate ≠ s.act.symbolRate ∨
      ∃ k, s.cfg.freq.get k ≠ s.act.freq.get k
    fs ≠ 0 → q ≠ 0 → (∀ k, s.cfg.freq.get k ≠ 0) → (∀ j k, j ≠ k → s.cfg.freq.get j ≠ s.cfg.freq.get k) →
    1 ≤ sps → sps ≤ 4096 → s.cfg.fecStrength = 32 →
    ∃ t, exec .setConfig s = .next t ∧
      t.act.sampleRate = s.cfg.sampleRate ∧ t.act.symbolRate = s.cfg.symbolRate ∧ t.act.freq = s.cfg.freq ∧
      t.act.fecEn = s.cfg.flags.getLsbD 0 ∧ t.act.debugLog = s.cfg.flags.getLsbD 1 ∧
      t.act.fecStrength = s.cfg.fecStrength ∧ t.act.codecMode = s.cfg.codecMode ∧ t.act.hsTimeout = s.cfg.hsTimeout ∧
      t.act.cfgValid = true ∧ t.act.sps.toNat = sps ∧ (∀ k, (t.act.fcw.get k).toNat = fcw k) ∧
      (t.act.trackEn = true ↔ 16 ≤ sps ∧ ∀ k, 2 ^ 34 ≤ dist k * (sps / 2)) ∧
      (changed → t.host.result1 = 1 ∧ t.tx = { s.tx with phase := 0 } ∧ t.rx = rxAfterReset t.act s.rx) ∧
      (¬changed → t.host.result1 = 0 ∧ t.tx = s.tx ∧ t.rx = s.rx) ∧
      t.host = { s.host with
        result0 := BitVec.ofNat 32 sps, result1 := t.host.result1, errCode := 0, errDetail := 0 } ∧
      t.params = s.params ∧ t.pending = s.pending ∧ t.rdata = s.rdata ∧ t.cfg = s.cfg ∧ t.fec = s.fec ∧
      t.sess = s.sess ∧ t.pipe = s.pipe ∧ t.queues = s.queues

/-- R143: the first failing check decides the detail of `ConfigError`, and then nothing of the configuration, the modem or
the session changes. -/
def Obligations.SetConfigFirstFailingCheckDecides : Prop :=
  ∀ s : State,
    let fs := s.cfg.sampleRate.toNat
    let q := s.cfg.symbolRate.toNat
    let sps := (2 * fs * 65536 + q) / (2 * q)
    let rates := fs ≠ 0 ∧ q ≠ 0
    let freqs := (∀ k, s.cfg.freq.get k ≠ 0) ∧ ∀ j k, j ≠ k → s.cfg.freq.get j ≠ s.cfg.freq.get k
    let range := 1 ≤ sps ∧ sps ≤ 4096
    (¬rates → exec .setConfig s = .next (s.raisedZ 0x01 1)) ∧
    (rates → ¬freqs → exec .setConfig s = .next (s.raisedZ 0x01 2)) ∧
    (rates → freqs → ¬range → exec .setConfig s = .next (s.raisedZ 0x01 3)) ∧
    (rates → freqs → range → s.cfg.fecStrength ≠ 32 → exec .setConfig s = .next (s.raisedZ 0x01 4))

/-! ## Modem -/

/-- R164, R165, R166: `SAMPLES_FOR_BYTES` returns `LEN * 4 * ACT_SPS` in its two result registers, and `MODULATE`, where it
has room, appends exactly that many entries and returns that number (for a `DOUT_CAP` below 2^32: log 13). -/
def Obligations.SamplesForBytesIsTheModulatedLength : Prop :=
  ∀ (s : State) (len : Nat), s.act.cfgValid = true → len < 2 ^ 24 →
    (∃ t, exec (.samplesForBytes len) s = .next t ∧
      t.host.result0.toNat + 2 ^ 32 * t.host.result1.toNat = len * 4 * s.act.sps.toNat ∧
      t.host = { s.host with
        result0 := t.host.result0, result1 := t.host.result1, errCode := 0, errDetail := 0 } ∧
      OnlyHostChanged s t) ∧
    (s.host.din.length = len → s.host.dout.length + len * 4 * s.act.sps.toNat ≤ s.params.doutCap →
      s.params.doutCap < 2 ^ 32 →
      ∃ u, exec (.modulate len) s = .next u ∧ u.host.errCode = 0 ∧
        u.host.dout.length = s.host.dout.length + len * 4 * s.act.sps.toNat ∧
        u.host.result0.toNat = len * 4 * s.act.sps.toNat)

/-- R162, R163, R164: `MODULATE` appends, for each symbol of the operand in order, `ACT_SPS` samples of the sine of a phase
that runs on from `PH_TX` by the symbol's frequency word each sample; `PH_TX` and `SYMBOLS_TX` move by exactly that, and
nothing else changes. R160, R161: the sine is the ROM's, addressed by the phase's top ten bits: every sixteenth entry of the
quarter wave, the odd half wave, and the cosine a quarter turn ahead. -/
def Obligations.ModulateEmitsPhaseContinuousTones : Prop :=
  ((List.range 17).map (fun k => sinOf (BitVec.ofNat 32 (16 * k * 2 ^ 22))) =
      [0, 1606, 3196, 4756, 6270, 7723, 9102, 10394, 11585, 12665, 13623, 14449, 15137, 15679, 16069, 16305, 16384] ∧
    sinOf 0xFFC00000 = -101 ∧
    ∀ ph : Word, sinOf ph = sinOf (ph &&& 0xFFC00000) ∧ sinOf (ph + 0x80000000) = -sinOf ph ∧
      sinOf (0x80000000 - (ph &&& 0xFFC00000)) = sinOf ph ∧ cosOf ph = sinOf (ph + 0x40000000)) ∧
  ∀ (s : State) (len : Nat), s.act.cfgValid = true → s.host.din.length = len →
    s.host.dout.length + len * 4 * s.act.sps.toNat ≤ s.params.doutCap →
    let vs := bytesSymbols (operandBytes s.host.din)
    ∃ out : List Entry,
      exec (.modulate len) s = .next { s with
        host := s.host.afterLD out (BitVec.ofNat 32 (len * 4 * s.act.sps.toNat)) 0
        tx := {
          phase := s.tx.phase + BitVec.ofNat 32 (phaseTravel s.act vs)
          symbolsTx := BitVec.ofNat 32 (min (s.tx.symbolsTx.toNat + 4 * len) (2 ^ 32 - 1)) } } ∧
      out.length = len * 4 * s.act.sps.toNat ∧
      ∀ k < 4 * len, ∀ j < s.act.sps.toNat,
        out[k * s.act.sps.toNat + j]? = some (sampleAt s.act s.tx.phase vs k j)

/-- R178: `DEMODULATE` takes the samples of the operand one by one and appends the bytes that come out, at most one for four
symbols and one symbol a sample; only the receive side and the host interface change. R183: an empty operand gives no output
and no error and changes no modem state (that it does so even with `DOUT` full is the model's choice, log 23). R170: the samples are taken in order,
each by the exact products and sums of the rule; the sample that fills the window ends it, by the formulas of R171 to R177.
(The bounds on window and accumulators are the invariants ModemConsistent and AccumulatorsBounded.) -/
def Obligations.DemodulateAppendsTheReceivedBytes : Prop :=
  (∀ (s : State) (len : Nat), s.act.cfgValid = true → s.host.din.length = len →
    (len = 0 ∨ s.host.dout.length + len / 4 + 1 ≤ s.params.doutCap) →
    let r := rxSamples s.act s.host.din s.rx
    exec (.demodulate len) s = .next { s with
      host := s.host.afterLD (r.2.map byteEntry) (BitVec.ofNat 32 r.2.length) 0
      rx := r.1 } ∧
    4 * r.2.length + r.1.nsym.toNat ≤ len + s.rx.nsym.toNat ∧
    (len = 0 → exec (.demodulate len) s = .next { s with host := s.host.afterLD [] 0 0 })) ∧
  (∀ (a : ActiveCfg) (rx : ModemRx), rxSamples a [] rx = (rx, []) ∧
    ∀ (x : Entry) (xs : List Entry),
      let r := rx.sample a x.toInt
      rxSamples a (x :: xs) rx = ((rxSamples a xs r.1).1, r.2.toList ++ (rxSamples a xs r.1).2)) ∧
  ∀ (a : ActiveCfg) (rx : ModemRx) (x : Entry), ConfigDerived a → WindowBounds a rx →
    (∀ k : Symbol, (rx.cor.get k).Bounded rx.clk.toNat) →
    ∃ rx', SampleTaken a.fcw x.toInt rx rx' ∧
      (rx'.clk ≠ rx'.wlen → rx.sample a x.toInt = (rx', none)) ∧
      (rx'.clk = rx'.wlen → ∃ rx'' out, rx.sample a x.toInt = (rx'', out) ∧ WindowEnded a rx' rx'' out)

/-- R182: feeding a sample sequence in one `DEMODULATE` or split over two gives the same bytes in the same order and the
same final state; only `RESULT0`, the count of the last command, differs. -/
def Obligations.DemodulateSplitAnywhereIsTheSame : Prop :=
  ∀ (s : State) (a b : List Entry), s.act.cfgValid = true → s.host.din = a ++ b →
    s.host.dout.length + a.length / 4 + b.length / 4 + 3 ≤ s.params.doutCap →
    ∃ t u v, exec (.demodulate (a.length + b.length)) s = .next t ∧
      exec (.demodulate a.length) { s with host := { s.host with din := a } } = .next u ∧
      exec (.demodulate b.length) { u with host := { u.host with din := b } } = .next v ∧
      v = { t with host := { t.host with result0 := v.host.result0 } }

/-- R184 (its last sentence): from a realigned receiver and with `TRACK_EN = 0`, `n * 4 * ACT_SPS` samples give exactly `n`
bytes, whatever the samples are, and leave no partial symbol or byte. -/
def Obligations.AlignedReceptionGivesOneByteForFourWindows : Prop :=
  ∀ (act : ActiveCfg) (rx : ModemRx) (n : Nat) (es : List Entry), act.trackEn = false → 1 ≤ act.sps.toNat →
    es.length = n * 4 * act.sps.toNat →
    let r := rxSamples act es (rx.realign act.sps)
    r.2.length = n ∧ r.1.clk = 0 ∧ r.1.nsym = 0 ∧ r.1.wlen = act.sps

/-- R172: the decided symbol is the smallest `k` such that `E[k] >= E[j]` for every `j`; silence decides symbol 0. -/
def Obligations.SymbolDecisionIsTheSmallestMaximum : Prop :=
  (∀ e : Tones Int, (∀ j, e.get j ≤ e.get (decideSymbol e)) ∧
    ∀ k, (∀ j, e.get j ≤ e.get k) → (decideSymbol e).val ≤ k.val) ∧
  decideSymbol (.all 0) = 0

/-- R162, R176: the byte assembler, fed the four symbols the modulator sends for a byte, puts out that byte after the
fourth and nothing before, whatever `SHREG` held, and counts four symbols. -/
def Obligations.ByteAssemblerMirrorsTheSymbolMapping : Prop :=
  ∀ (rx : ModemRx) (b : Byte), rx.nsym = 0 →
    ∃ v0 v1 v2 v3 : Symbol, byteSymbols b = [v0, v1, v2, v3] ∧
      b.toNat = 64 * v0.val + 16 * v1.val + 4 * v2.val + v3.val ∧
      let r0 := rx.assemble v0
      let r1 := r0.1.assemble v1
      let r2 := r1.1.assemble v2
      let r3 := r2.1.assemble v3
      r0.2 = none ∧ r1.2 = none ∧ r2.2 = none ∧ r3.2 = some b ∧
      r3.1 = { rx with shreg := 0, nsym := 0, symbolsRx := BitVec.ofNat 32 (min (rx.symbolsRx.toNat + 4) (2 ^ 32 - 1)) }

/-- R175: when a window is good, how `LOCKQ` moves, when `LOCKED` is set and cleared, and that only the 1-to-0 transition
counts as a sync loss. -/
def Obligations.LockDetectorFollowsItsRule : Prop :=
  (∀ (e : Tones Int) (sym : Symbol) (half : Nat) (te : Int),
    goodWindow e sym half te = true ↔
      3 * e.get sym > 2 * (e.get 0 + e.get 1 + e.get 2 + e.get 3) ∧ te.natAbs < max 1 (half / 4)) ∧
  ∀ (rx : ModemRx) (good : Bool),
    let q : Int := if good then min ((rx.lockq.toNat : Int) + 1) 15 else max ((rx.lockq.toNat : Int) - 2) 0
    let up := rx.locked = false ∧ q ≥ 8
    let down := rx.locked = true ∧ q = 0
    let rx' := rx.lockStep good
    (rx'.lockq.toNat : Int) = q ∧
    (up → rx'.locked = true ∧ rx'.syncLosses = rx.syncLosses) ∧
    (down → rx'.locked = false ∧
      rx'.syncLosses = BitVec.ofNat 32 (min (rx.syncLosses.toNat + 1) (2 ^ 32 - 1))) ∧
    (¬up → ¬down → rx'.locked = rx.locked ∧ rx'.syncLosses = rx.syncLosses) ∧
    rx' = { rx with lockq := rx'.lockq, locked := rx'.locked, syncLosses := rx'.syncLosses }

/-! ## FEC codec -/

/-- R211, R212: the table form of `gmul` equals the bit-level form; `EXP` holds the powers of `alpha`, `LOG` undoes it and
`ginv` is the inverse. -/
def Obligations.FieldTablesAgreeWithTheBitLevelField : Prop :=
  (∀ a b : Byte, gmulTable a b = gmul a b) ∧
  (expTab 0 = 1 ∧ ∀ i < 255, expTab ((i + 1) % 255) = gmul 0x02 (expTab i)) ∧
  (∀ a : Byte, a ≠ 0 → logTab a < 255 ∧ expTab (logTab a) = a ∧ gmul a (ginv a) = 1)

/-- R214, R215, R216, R217: `FEC_ENCODE` appends the data unchanged and 32 bytes that make the whole a codeword, counts one
encode and returns `LEN + 32`; nothing else changes. -/
def Obligations.FecEncodeAppendsASystematicCodeword : Prop :=
  ∀ (s : State) (len : Nat), s.host.din.length = len → len ≤ 223 →
    s.host.dout.length + len + 32 ≤ s.params.doutCap →
    ∃ par : List Byte, par.length = 32 ∧ IsCodeword (operandBytes s.host.din ++ par) ∧
      exec (.fecEncode len) s = .next { s with
        host := s.host.afterLD ((operandBytes s.host.din ++ par).map byteEntry) (BitVec.ofNat 32 (len + 32)) 0
        fec := { s.fec with encodes := satInc s.fec.encodes } }

/-- R227, R228 (a): decoding what the encoder made returns 0 corrected errors and the same word, and counts one decode and
one clean frame. -/
def Obligations.FecDecodeOfAnEncodedWordIsClean : Prop :=
  ∀ (s : State) (d : List Byte), d.length ≤ 223 → s.host.din = (rsEncode d).map byteEntry →
    s.host.dout.length + d.length + 32 ≤ s.params.doutCap →
    exec (.fecDecode (d.length + 32)) s = .next { s with
      host := s.host.afterLD ((rsEncode d).map byteEntry) 0 0
      fec := { s.fec with decodes := satInc s.fec.decodes, clean := satInc s.fec.clean } }

/-- R225, R226, R228 (b) for `k = 1`: a codeword of a legal length with exactly one byte changed decodes to count 1 and the
codeword. -/
def Obligations.SingleByteErrorIsCorrected : Prop :=
  ∀ (r : List Byte) (i : Nat) (e : Byte), 32 ≤ r.length → r.length ≤ 255 → IsCodeword r → i < r.length → e ≠ 0 →
    rsDecode (r.set i (r.getD i 0 ^^^ e)) = .corrected 1 r

/-- R223, R227: what `FEC_DECODE` does with either result of the decoder: a corrected word is returned whole, with a count of
at most 16 and at most that many bytes changed; an uncorrectable one is reported with its two counters kept and nothing
appended. -/
def Obligations.FecDecodeCorrectsOrReports : Prop :=
  ∀ (s : State) (len : Nat), s.host.din.length = len → 32 ≤ len → len ≤ 255 →
    s.host.dout.length + len ≤ s.params.doutCap →
    let r := operandBytes s.host.din
    (∀ cnt cw, rsDecode r = .corrected cnt cw →
      exec (.fecDecode len) s = .next { s with
        host := s.host.afterLD (cw.map byteEntry) (BitVec.ofNat 32 cnt) 0
        fec := { s.fec with
          decodes := satInc s.fec.decodes
          clean := if cnt = 0 then satInc s.fec.clean else s.fec.clean
          corrected := satInc s.fec.corrected cnt } } ∧
      cnt ≤ 16 ∧ cw.length = len ∧
      ((List.range len).filter (fun i => cw.getD i 0 != r.getD i 0)).length ≤ cnt) ∧
    (rsDecode r = .uncorrectable →
      exec (.fecDecode len) s = .next { s.raisedLD 0x05 0 with
        fec := { s.fec with
          decodes := satInc s.fec.decodes
          uncorrectable := satInc s.fec.uncorrectable } })

/-- R250, R251: the two length commands are pure arithmetic: `LEN + 32`, and `LEN - 32` as a 32-bit two's complement
pattern; no validation, no error, no state but the results and `ERR`. -/
def Obligations.FecLengthCommandsArePureArithmetic : Prop :=
  ∀ (s : State) (len : Nat), len < 2 ^ 24 →
    (∃ t, exec (.fecEncodedLen len) s = .next t ∧ t.host.result0.toNat = len + 32 ∧
      t.host = { s.host with result0 := t.host.result0, result1 := 0, errCode := 0, errDetail := 0 } ∧
      OnlyHostChanged s t) ∧
    (∃ t, exec (.fecDataLen len) s = .next t ∧ t.host.result0.toInt = (len : Int) - 32 ∧
      t.host = { s.host with result0 := t.host.result0, result1 := 0, errCode := 0, errDetail := 0 } ∧
      OnlyHostChanged s t)

/-! ## Session -/

/-- R272, R276: `INITIALIZE` with 32 seed bytes tears down what was there, announces the end of a live session, installs the
keypair of the seed and leaves the session `Idle`, from every state. -/
def Obligations.InitializeTearsDownAndInstallsTheKeypair : Prop :=
  ∀ s : State, s.host.din.length = 32 →
    ∃ t, exec (.initializeSession 32) s = .next t ∧ TornDown s t ∧
      t.sess.state = .idle ∧ t.sess.termKind = .noTerm ∧ t.sess.termReason = 0 ∧ t.sess.keypairValid = true ∧
      (t.sess.sk, t.sess.pk) = xKeypair s.params (operandBytes s.host.din) ∧
      t.host.result0 = 0 ∧ t.host.result1 = 0 ∧ t.host.errCode = 0 ∧ t.host.errDetail = 0 ∧
      t.host.cmdErr = s.host.cmdErr ∧
      (s.sess.state = .established →
        EventAppended s t (if s.sess.hangupRemoteLatch then 0x00000108 else 0x00000008)) ∧
      (s.sess.state = .handshaking → EventAppended s t 0x00000603) ∧
      (s.sess.state ≠ .established → s.sess.state ≠ .handshaking → NoEvent s t)

/-- R263, R277: `DERIVE_PUBKEY` appends the 32 bytes of the public key that `INITIALIZE` installs for the same seed, and
changes no session state. -/
def Obligations.DerivedKeyIsTheKeyInitializeInstalls : Prop :=
  ∀ s : State, s.host.din.length = 32 → s.host.dout.length + 32 ≤ s.params.doutCap →
    ∃ t, exec (.initializeSession 32) s = .next t ∧ t.sess.pk.length = 32 ∧
      exec (.derivePubkey 32) s = .next { s with host := s.host.afterLD (t.sess.pk.map byteEntry) 32 0 }

/-- R273, R274, R278, R279, R280: what a start command does in `Idle` with a 32-byte peer key, when the collaborator's
checked answer (shapes: log 9) is to continue and when it is to fail; and, whatever answer it is, `Complete` among them, a
success of `hs_apply` on it in the begun handshake is the command's outcome (HandshakeCompletionEstablishesTheSession says
what `hs_apply` does). -/
def Obligations.StartBeginsTheHandshakeOrTerminates : Prop :=
  ∀ (role : Role) (s : State), s.sess.state = .idle → s.host.din.length = 32 →
    let peer := operandBytes s.host.din
    let r := hsChecked s.params (xHsBegin s.params role s.sess.sk s.sess.pk peer)
    (∀ t, (handshakeBegun s role peer).hsApply r = .success t →
      exec (startCommand role 32) s = .next { t with host := { t.host with errCode := 0, errDetail := 0 } }) ∧
    (∀ ctx out, r = .cont ctx out →
      ∃ t, exec (startCommand role 32) s = .next t ∧
        t.sess = { s.sess with
          role := role, peerKey := peer, state := .handshaking, hsctx := ctx
          hsOut := out.getD [], hsOutValid := out.isSome, hsTimer := s.act.hsTimeout
          hangupLocalSent := false, hangupRemotePending := false, hangupRemoteLatch := false } ∧
        EventAppended s t (match role with | .server => 0x00000001 | .client => 0x00000101) ∧
        t.host = { s.host.afterLD [] 0 0 with queueDrop := t.host.queueDrop } ∧
        t.queues = { s.queues with evq := t.queues.evq, evDrops := t.queues.evDrops } ∧
        t.params = s.params ∧ t.pending = s.pending ∧ t.rdata = s.rdata ∧ t.cfg = s.cfg ∧ t.act = s.act ∧
        t.tx = s.tx ∧ t.rx = s.rx ∧ t.fec = s.fec ∧ t.pipe = s.pipe) ∧
    (∀ reason, r = .fail reason →
      ∃ t, exec (startCommand role 32) s = .next t ∧ TornDown s t ∧ TerminatedError t (BitVec.ofNat 8 reason) ∧
        t.host.errCode = 0x03 ∧ t.host.errDetail = BitVec.ofNat 8 reason ∧ t.host.cmdErr = true ∧
        t.host.result0 = 0 ∧ t.host.result1 = 0 ∧
        ∃ u, EventAppended s u (match role with | .server => 0x00000001 | .client => 0x00000101) ∧
          u.params = s.params ∧ EventAppended u t (BitVec.ofNat 32 (reason * 256 + 3)))

/-- R273: what `hs_apply` does to any state, whichever command it ends. `Continue`: the context is replaced, the message, if
any, put into the mailbox, `HS_TIMER` reloaded, nothing else changed. `Complete`: the session keys are installed, the context
zeroed, the timer stopped, the final message put into the mailbox, the session `Established`, and the two events emitted in
order. -/
def Obligations.HandshakeCompletionEstablishesTheSession : Prop :=
  (∀ (s : State) (ctx : List Byte) (out : Option (List Byte)),
    s.hsApply (.cont ctx out) = .success { s with sess := { s.sess with
      hsctx := ctx, hsOut := out.getD s.sess.hsOut, hsOutValid := s.sess.hsOutValid || out.isSome
      hsTimer := s.act.hsTimeout } }) ∧
  ∀ (s : State) (keys : List Byte) (out : Option (List Byte)),
    ∃ t u, s.hsApply (.complete keys out) = .success t ∧
      t.sess = { s.sess with
        keys := keys, hsctx := zeros s.params.hsctxBytes, hsTimer := 0, state := .established
        hsOut := out.getD s.sess.hsOut, hsOutValid := s.sess.hsOutValid || out.isSome } ∧
      EventAppended s u 0x00000002 ∧ u.params = s.params ∧ EventAppended u t 0x00000004 ∧
      t.host = { s.host with queueDrop := t.host.queueDrop } ∧
      t.queues = { s.queues with evq := t.queues.evq, evDrops := t.queues.evDrops } ∧
      t.params = s.params ∧ t.pending = s.pending ∧ t.rdata = s.rdata ∧ t.cfg = s.cfg ∧ t.act = s.act ∧
      t.tx = s.tx ∧ t.rx = s.rx ∧ t.fec = s.fec ∧ t.pipe = s.pipe

/-- R285: `HS_READ` with an empty mailbox, with a message and room for it, and with a message and no room. -/
def Obligations.HsReadMovesTheMessageOrKeepsIt : Prop :=
  ∀ s : State,
    (s.sess.hsOutValid = false → exec .hsRead s = .next s.cleared) ∧
    (s.sess.hsOutValid = true → s.host.dout.length + s.sess.hsOut.length ≤ s.params.doutCap →
      exec .hsRead s = .next { s with
        host := s.host.afterZ (s.sess.hsOut.map byteEntry) (BitVec.ofNat 32 s.sess.hsOut.length) 0
        sess := { s.sess with hsOut := [], hsOutValid := false } }) ∧
    (s.sess.hsOutValid = true → s.params.doutCap < s.host.dout.length + s.sess.hsOut.length →
      exec .hsRead s = .next (s.raisedZ 0x12 0))

/-- R273, R274, R286: what `HS_WRITE` does in `Handshaking` with an empty mailbox: the collaborator's checked answer (shapes: log 9) to the
message completes the handshake or fails it, and a message longer than `HS_MSG_MAX` fails it as malformed without asking.
Whatever answer it is, `Continue` among them, a success of `hs_apply` on it, with the operand consumed and the results
cleared, is the command's outcome (HandshakeCompletionEstablishesTheSession says what `hs_apply` does). -/
def Obligations.HsWriteCompletesOrFailsTheHandshake : Prop :=
  ∀ (s : State) (len : Nat), s.sess.state = .handshaking → s.sess.hsOutValid = false → s.host.din.length = len →
    let r := hsChecked s.params (xHsStep s.params s.sess.hsctx (operandBytes s.host.din))
    let begun : State := { s with host := { s.host with din := [], result0 := 0, result1 := 0 } }
    (len ≤ s.params.hsMsgMax → ∀ t, begun.hsApply r = .success t →
      exec (.hsWrite len) s = .next { t with host := { t.host with errCode := 0, errDetail := 0 } }) ∧
    (len ≤ s.params.hsMsgMax → ∀ keys out, r = .complete keys out →
      ∃ t u, exec (.hsWrite len) s = .next t ∧
        t.sess = { s.sess with
          keys := keys, hsctx := zeros s.params.hsctxBytes, hsTimer := 0, state := .established
          hsOut := out.getD s.sess.hsOut, hsOutValid := out.isSome } ∧
        EventAppended s u 0x00000002 ∧ u.params = s.params ∧ EventAppended u t 0x00000004 ∧
        t.host = { s.host.afterLD [] 0 0 with queueDrop := t.host.queueDrop } ∧
        t.queues = { s.queues with evq := t.queues.evq, evDrops := t.queues.evDrops } ∧
        t.params = s.params ∧ t.pending = s.pending ∧ t.rdata = s.rdata ∧ t.cfg = s.cfg ∧ t.act = s.act ∧
        t.tx = s.tx ∧ t.rx = s.rx ∧ t.fec = s.fec ∧ t.pipe = s.pipe) ∧
    (len ≤ s.params.hsMsgMax → ∀ reason, r = .fail reason →
      ∃ t, exec (.hsWrite len) s = .next t ∧ TornDown s t ∧ TerminatedError t (BitVec.ofNat 8 reason) ∧
        t.host.errCode = 0x03 ∧ t.host.errDetail = BitVec.ofNat 8 reason ∧ t.host.cmdErr = true ∧
        t.host.result0 = 0 ∧ t.host.result1 = 0 ∧ EventAppended s t (BitVec.ofNat 32 (reason * 256 + 3))) ∧
    (s.params.hsMsgMax < len →
      ∃ t, exec (.hsWrite len) s = .next t ∧ TornDown s t ∧ TerminatedError t 2 ∧
        t.host.errCode = 0x03 ∧ t.host.errDetail = 2 ∧ t.host.cmdErr = true ∧
        t.host.result0 = 0 ∧ t.host.result1 = 0 ∧ EventAppended s t 0x00000203)

/-- R274, R296: `TICK` counts the handshake timer down, and the tick that brings it to 0 ends the handshake with reason 1;
outside `Handshaking` or with no timer running it changes nothing. -/
def Obligations.TickCountsDownAndTimesOut : Prop :=
  ∀ s : State,
    (s.sess.state = .handshaking → 2 ≤ s.sess.hsTimer.toNat →
      exec .tick s = .next { s with
        host := s.host.afterZ [] (s.sess.hsTimer - 1) 0
        sess := { s.sess with hsTimer := s.sess.hsTimer - 1 } }) ∧
    (s.sess.state = .handshaking → s.sess.hsTimer.toNat = 1 →
      ∃ t, exec .tick s = .next t ∧ TornDown s t ∧ TerminatedError t 1 ∧ t.host.errCode = 0x03 ∧
        t.host.errDetail = 1 ∧ t.host.cmdErr = true ∧ t.host.result0 = 0 ∧ t.host.result1 = 0 ∧
        EventAppended s t 0x00000103) ∧
    (s.sess.state ≠ .handshaking ∨ s.sess.hsTimer = 0 →
      exec .tick s = .next { s with host := s.host.afterZ [] s.sess.hsTimer 0 })

/-- R272, R290, R301: `STOP` from any state but `Terminated` tears the session down, announces it, and records `Hangup`
exactly when an established session had received a remote hangup; in `Terminated` it changes nothing; a second `STOP` is a
no-op. -/
def Obligations.StopTerminatesFromEveryStateAndIsIdempotent : Prop :=
  ∀ s : State,
    (s.sess.state = .terminated → exec .stopSession s = .next s.cleared) ∧
    (s.sess.state ≠ .terminated →
      ∃ t, exec .stopSession s = .next t ∧ TornDown s t ∧ SecretsZero t ∧ t.sess.state = .terminated ∧
        t.sess.termKind =
          (if s.sess.state = .established ∧ s.sess.hangupRemoteLatch = true then .hangup else .normal) ∧
        t.sess.termReason = 0 ∧ t.host.result0 = 0 ∧ t.host.result1 = 0 ∧ t.host.errCode = 0 ∧
        t.host.errDetail = 0 ∧ t.host.cmdErr = s.host.cmdErr ∧
        (s.sess.state = .established →
          EventAppended s t (if s.sess.hangupRemoteLatch then 0x00000108 else 0x00000008)) ∧
        (s.sess.state = .handshaking → EventAppended s t 0x00000603) ∧
        (s.sess.state ≠ .established → s.sess.state ≠ .handshaking → NoEvent s t)) ∧
    ∀ t, exec .stopSession s = .next t → exec .stopSession t = .next t

/-- R294: `CONSUME_REMOTE_HANGUP` returns the pending flag and clears it and nothing else, so that a second one returns 0. -/
def Obligations.ConsumeRemoteHangupReturnsTrueOnce : Prop :=
  ∀ s : State, ∃ t,
    exec .consumeRemoteHangup s = .next t ∧
    t = { s with
      host := s.host.afterZ [] (if s.sess.hangupRemotePending then 1 else 0) 0
      sess := { s.sess with hangupRemotePending := false } } ∧
    exec .consumeRemoteHangup t = .next { t with host := { t.host with result0 := 0 } }

/-! ## Frame pipeline -/

/-- R311, R315, R320, R321: `FEED_MIC_FRAME` in `Established` with a configuration and a payload that fits, when the
collaborator's checked answer is a ciphertext: the frame of type byte 0 is encrypted, encoded if FEC is on, modulated and
queued, the oldest frame dropped if the queue was full; everything else is unchanged. -/
def Obligations.FeedMicFrameQueuesOneFrame : Prop :=
  ∀ (s : State) (len : Nat) (keys ct : List Byte), s.sess.state = .established → s.act.cfgValid = true →
    s.host.din.length = len →
    (s.act.fecEn = true → len + 1 + s.params.aeadOverhead ≤ 223) →
    (s.act.fecEn = false → len + 1 + s.params.aeadOverhead ≤ 255) →
    encChecked s.params (len + 1 + s.params.aeadOverhead)
      (xEncrypt s.params s.sess.keys (0x00 :: operandBytes s.host.din)) = .ok keys ct →
    let bytes := if s.act.fecEn then rsEncode ct else ct
    exec (.feedMicFrame len) s = .next (frameQueued s [] keys bytes false) ∧
    bytes.length = len + 1 + s.params.aeadOverhead + (if s.act.fecEn then 32 else 0) ∧
    (txBytes s.act bytes s.tx).2.length = bytes.length * 4 * s.act.sps.toNat

/-- R293, R311, R320: `SEND_HANGUP` queues the frame whose plaintext is the one byte `0x01` and sets `HANGUP_LOCAL_SENT`;
`DIN` and the session state stay. -/
def Obligations.SendHangupQueuesTheHangupFrame : Prop :=
  ∀ (s : State) (keys ct : List Byte), s.sess.state = .established → s.act.cfgValid = true → s.params.Ok →
    encChecked s.params (1 + s.params.aeadOverhead) (xEncrypt s.params s.sess.keys [0x01]) = .ok keys ct →
    let bytes := if s.act.fecEn then rsEncode ct else ct
    exec .sendHangup s = .next (frameQueued s s.host.din keys bytes true) ∧
    (frameQueued s s.host.din keys bytes true).sess.hangupLocalSent = true

/-- R275, R320, R361: when the encrypting collaborator answers `Fatal`, or a result of a wrong length, both outbound
commands end the session: `FatalError(4)` is reported, the session is wiped and `Terminated(Error)`, one `error` event is
emitted, and no frame, encode or symbol is counted. -/
def Obligations.FatalEncryptionEndsTheSession : Prop :=
  ∀ s : State, s.sess.state = .established → s.act.cfgValid = true → s.params.Ok →
    (∀ len, s.host.din.length = len →
      (s.act.fecEn = true → len + 1 + s.params.aeadOverhead ≤ 223) →
      (s.act.fecEn = false → len + 1 + s.params.aeadOverhead ≤ 255) →
      encChecked s.params (len + 1 + s.params.aeadOverhead)
        (xEncrypt s.params s.sess.keys (0x00 :: operandBytes s.host.din)) = .fatal →
      ∃ t, exec (.feedMicFrame len) s = .next t ∧ TornDown s t ∧ TerminatedError t 4 ∧ t.host.errCode = 0x14 ∧
        t.host.errDetail = 4 ∧ t.host.cmdErr = true ∧ t.host.result0 = 0 ∧ t.host.result1 = 0 ∧
        EventAppended s t 0x00000407) ∧
    (encChecked s.params (1 + s.params.aeadOverhead) (xEncrypt s.params s.sess.keys [0x01]) = .fatal →
      ∃ t, exec .sendHangup s = .next t ∧ TornDown s t ∧ TerminatedError t 4 ∧ t.host.errCode = 0x14 ∧
        t.host.errDetail = 4 ∧ t.host.cmdErr = true ∧ t.host.result0 = 0 ∧ t.host.result1 = 0 ∧
        EventAppended s t 0x00000407)

/-- R325, R335 (its last sentence): whatever the samples, `HANDLE_INCOMING_FRAME` in `Established` with a configuration ends
in one of the five outcomes, `ERR = 0` and the session still `Established` (its state registers but the keys and the two
remote hangup flags as before), or in the fatal one, with `RESULT0 = 0`; `FRAMES_RX` grows by 1, and
`FRAMES_LOST` by 1 exactly when `RESULT0` is 2, 3 or 4. -/
def Obligations.EveryIncomingFrameIsAccountedFor : Prop :=
  ∀ (s : State) (len : Nat), s.sess.state = .established → s.act.cfgValid = true → s.host.din.length = len →
    ∃ t, exec (.handleIncomingFrame len) s = .next t ∧ t.pipe.framesRx = satInc s.pipe.framesRx ∧
      t.pipe.framesTx = s.pipe.framesTx ∧ t.host.din = [] ∧ t.cfg = s.cfg ∧ t.act = s.act ∧
      ((t.host.errCode = 0 ∧ t.host.errDetail = 0 ∧ t.host.dout = s.host.dout ∧ t.host.cmdErr = s.host.cmdErr ∧
          t.tx = s.tx ∧ t.rx = (rxSamples s.act s.host.din (s.rx.realign s.act.sps)).1 ∧
          t.queues.txq = s.queues.txq ∧ t.queues.txqDrops = s.queues.txqDrops ∧ t.fec.encodes = s.fec.encodes ∧
          t.sess = { s.sess with
            keys := t.sess.keys
            hangupRemotePending := t.sess.hangupRemotePending, hangupRemoteLatch := t.sess.hangupRemoteLatch } ∧
          ((t.host.result0.toNat ≤ 1 ∧ t.pipe.framesLost = s.pipe.framesLost) ∨
            (2 ≤ t.host.result0.toNat ∧ t.host.result0.toNat ≤ 4 ∧ t.queues.rxq = s.queues.rxq ∧
              t.pipe.framesLost = satInc s.pipe.framesLost))) ∨
        (t.host.errCode = 0x14 ∧ t.host.errDetail = 4 ∧ t.host.cmdErr = true ∧ TerminatedError t 4 ∧
          t.host.result0 = 0 ∧ t.host.dout = [] ∧ t.queues.txq = [] ∧ t.queues.rxq = [] ∧
          t.queues.evq.getLast? = some 0x00000407 ∧ t.pipe.framesLost = s.pipe.framesLost))

/-- R311, R325, R326 with FEC off: the receiver is realigned and the operand demodulated; more than 255 bytes are malformed
(lost, reason 1, `RESULT0` 2), else the bytes are the ciphertext, which decides: too short (lost, reason 1), rejected (lost,
reason 3, `RESULT0` 4), fatal, or a plaintext of type 0 queued for the speaker, of type 1 raising the two remote hangup
flags, of another type lost (reason 1). Each time the whole next state, but after `Fatal`, is given. Rejected, fatal and
plaintext are the collaborator's checked answer: new keys of a wrong length count as `Fatal`, in a `Reject` too, which is the
model's reading (log 10), not a sentence of R267 or R325. -/
def Obligations.IncomingFrameIsDeliveredByItsTypeByte : Prop :=
  ∀ (s : State) (len : Nat), s.sess.state = .established → s.act.cfgValid = true → s.act.fecEn = false →
    s.host.din.length = len →
    let r := rxSamples s.act s.host.din (s.rx.realign s.act.sps)
    let fate : FrameFate := {
      result0 := 0, result1 := 0, keys := s.sess.keys, fec := s.fec
      events := [], payload := none, hangup := false, lost := false }
    (255 < r.2.length → exec (.handleIncomingFrame len) s = .next (incomingEnd s r.1 (fate.asLost 1 2))) ∧
    (r.2.length ≤ 255 → CiphertextDecides s len r.1 fate r.2)

/-- R311, R325, R326 with FEC on: a byte count below 32 or above 255 is malformed (lost, reason 1, `RESULT0` 2, no decode
counted); an uncorrectable frame is lost (reason 2, `RESULT0` 3); a corrected one has its count of corrections counted,
returned in `RESULT1` and, if not 0, announced (`fec_correction`), and its first `n - 32` bytes are the ciphertext, which
decides as with FEC off. Each time the whole next state, but after `Fatal`, is given. The ciphertext decides by the
collaborator's checked answer: new keys of a wrong length count as `Fatal`, in a `Reject` too, which is the model's reading
(log 10), not a sentence of R267 or R325. -/
def Obligations.FecFrameIsCorrectedAndDeliveredOrLost : Prop :=
  ∀ (s : State) (len : Nat), s.sess.state = .established → s.act.cfgValid = true → s.act.fecEn = true →
    s.host.din.length = len →
    let r := rxSamples s.act s.host.din (s.rx.realign s.act.sps)
    let fate : FrameFate := {
      result0 := 0, result1 := 0, keys := s.sess.keys, fec := s.fec
      events := [], payload := none, hangup := false, lost := false }
    (r.2.length < 32 ∨ 255 < r.2.length →
      exec (.handleIncomingFrame len) s = .next (incomingEnd s r.1 (fate.asLost 1 2))) ∧
    (32 ≤ r.2.length → r.2.length ≤ 255 →
      (rsDecode r.2 = .uncorrectable →
        let fec := { s.fec with decodes := satInc s.fec.decodes, uncorrectable := satInc s.fec.uncorrectable }
        exec (.handleIncomingFrame len) s = .next (incomingEnd s r.1 ({ fate with fec := fec }.asLost 2 3))) ∧
      ∀ cnt cw, rsDecode r.2 = .corrected cnt cw →
        let fec := { s.fec with
          decodes := satInc s.fec.decodes
          clean := if cnt = 0 then satInc s.fec.clean else s.fec.clean
          corrected := satInc s.fec.corrected cnt }
        let events := if cnt = 0 then [] else [BitVec.ofNat 32 (cnt * 256 + 5)]
        CiphertextDecides s len r.1
          { fate with result1 := BitVec.ofNat 32 cnt, fec := fec, events := events } (cw.take (r.2.length - 32)))

/-- R330, R331: the two pulls hand over the oldest frame of their queue where `DOUT` has room, keep it and raise
`CapacityError` where it has not, and answer 0, 0 on an empty queue. -/
def Obligations.PullsHandOverTheOldestFrame : Prop :=
  ∀ s : State,
    (s.queues.txq = [] → exec .generateOutgoingFrame s = .next s.cleared) ∧
    (∀ f rest, s.queues.txq = f :: rest →
      (s.host.dout.length + f.length ≤ s.params.doutCap →
        exec .generateOutgoingFrame s = .next { s with
          host := s.host.afterZ f (BitVec.ofNat 32 f.length) 1
          queues := { s.queues with txq := rest } }) ∧
      (s.params.doutCap < s.host.dout.length + f.length →
        exec .generateOutgoingFrame s = .next (s.raisedZ 0x12 0))) ∧
    (s.queues.rxq = [] → exec .pullSpeakerFrame s = .next s.cleared) ∧
    (∀ f rest, s.queues.rxq = f :: rest →
      (s.host.dout.length + f.length ≤ s.params.doutCap →
        exec .pullSpeakerFrame s = .next { s with
          host := s.host.afterZ (f.map byteEntry) (BitVec.ofNat 32 f.length) 1
          queues := { s.queues with rxq := rest } }) ∧
      (s.params.doutCap < s.host.dout.length + f.length →
        exec .pullSpeakerFrame s = .next (s.raisedZ 0x12 0)))

/-! ## Command errors -/

/-- R358: a format LD command whose `LEN` differs from `count(DIN)` raises `LengthMismatch` before the operand is taken:
`DIN` and the results keep their content. -/
def Obligations.LengthMismatchKeepsTheOperand : Prop :=
  ∀ (i : Instr) (s : State), i.format = .LD → i.len ≠ s.host.din.length →
    exec i s = .next { s with host := { s.host with errCode := 0x11, errDetail := 0, cmdErr := true } }

/-- R356: the six commands bound to a session state raise `SessionStateError` with the value of `STATE` in every other state,
and change nothing but `ERR`, `CMD_ERR`, the results and the consumed operand. -/
def Obligations.SessionStateErrorCarriesTheState : Prop :=
  ∀ s : State,
    let len := s.host.din.length
    let code := BitVec.ofNat 8 (match s.sess.state with
      | .uninitialized => 0 | .idle => 1 | .handshaking => 2 | .established => 3 | .stopping => 4 | .terminated => 5)
    (s.sess.state ≠ .idle →
      exec (.startServer len) s = .next (s.raisedLD 0x06 code) ∧
      exec (.startClient len) s = .next (s.raisedLD 0x06 code)) ∧
    (s.sess.state ≠ .handshaking → exec (.hsWrite len) s = .next (s.raisedLD 0x06 code)) ∧
    (s.sess.state ≠ .established →
      exec (.feedMicFrame len) s = .next (s.raisedLD 0x06 code) ∧
      exec (.handleIncomingFrame len) s = .next (s.raisedLD 0x06 code) ∧
      exec .sendHangup s = .next (s.raisedZ 0x06 code))

/-- R149, R351, R352, R354, R360, R363: the other raised errors on the state and the operand's length, each with its code
and detail, where the checks before it pass. -/
def Obligations.OperandAndConfigurationErrorsAreRaised : Prop :=
  ∀ s : State,
    let len := s.host.din.length
    let m := len + 1 + s.params.aeadOverhead
    (s.act.cfgValid = false →
      exec (.modulate len) s = .next (s.raisedLD 0x01 6) ∧ exec (.demodulate len) s = .next (s.raisedLD 0x01 6) ∧
      (∀ n, exec (.samplesForBytes n) s = .next (s.raisedZ 0x01 6)) ∧
      (s.sess.state = .established →
        exec (.feedMicFrame len) s = .next (s.raisedLD 0x01 6) ∧
        exec (.handleIncomingFrame len) s = .next (s.raisedLD 0x01 6) ∧
        exec .sendHangup s = .next (s.raisedZ 0x01 6))) ∧
    (len ≠ 32 →
      exec (.initializeSession len) s = .next (s.raisedLD 0x02 1) ∧
      exec (.derivePubkey len) s = .next (s.raisedLD 0x02 1) ∧
      (s.sess.state = .idle →
        exec (.startServer len) s = .next (s.raisedLD 0x02 2) ∧
        exec (.startClient len) s = .next (s.raisedLD 0x02 2))) ∧
    (223 < len → exec (.fecEncode len) s = .next (s.raisedLD 0x01 5)) ∧
    (len < 32 ∨ 255 < len → exec (.fecDecode len) s = .next (s.raisedLD 0x04 1)) ∧
    (s.sess.state = .handshaking → s.sess.hsOutValid = true →
      exec (.hsWrite len) s = .next (s.raisedLD 0x13 0)) ∧
    (s.sess.state = .established → s.act.cfgValid = true →
      (s.act.fecEn = true → 223 < m → exec (.feedMicFrame len) s = .next (s.raisedLD 0x01 5)) ∧
      (s.act.fecEn = false → 255 < m → exec (.feedMicFrame len) s = .next (s.raisedLD 0x01 7)))

/-- R359 for the five commands that take an operand: where the result would not fit in `DOUT` they raise `CapacityError`; the
operand is gone and nothing else changes. (That `DEMODULATE` does not raise it for an empty operand is R183, and, with `DOUT` full,
the model's choice, log 23. The three pulls: HsReadMovesTheMessageOrKeepsIt, PullsHandOverTheOldestFrame.) -/
def Obligations.CapacityErrorChangesNothingElse : Prop :=
  ∀ s : State,
    let len := s.host.din.length
    let used := s.host.dout.length
    (s.act.cfgValid = true → s.params.doutCap < used + len * 4 * s.act.sps.toNat →
      exec (.modulate len) s = .next (s.raisedLD 0x12 0)) ∧
    (s.act.cfgValid = true → 0 < len → s.params.doutCap < used + len / 4 + 1 →
      exec (.demodulate len) s = .next (s.raisedLD 0x12 0)) ∧
    (len ≤ 223 → s.params.doutCap < used + len + 32 → exec (.fecEncode len) s = .next (s.raisedLD 0x12 0)) ∧
    (32 ≤ len → len ≤ 255 → s.params.doutCap < used + len → exec (.fecDecode len) s = .next (s.raisedLD 0x12 0)) ∧
    (len = 32 → s.params.doutCap < used + 32 → exec (.derivePubkey len) s = .next (s.raisedLD 0x12 0))

/-- R35, R350, R362, R366: every command writes `ERR`: 0, 0 on success, with `CMD_ERR` as it was; else one of the codes of
the table, with `CMD_ERR` set. -/
def Obligations.EveryCommandWritesErr : Prop :=
  ∀ (i : Instr) (s t : State), exec i s = .next t →
    (t.host.errCode = 0 ∧ t.host.errDetail = 0 ∧ t.host.cmdErr = s.host.cmdErr) ∨
    (t.host.errCode.toNat ∈ [0x01, 0x02, 0x03, 0x04, 0x05, 0x06, 0x11, 0x12, 0x13, 0x14] ∧ t.host.cmdErr = true)

/-! ## The register space -/

/-- R85: a read of `STATUS` returns exactly these fields and has no effect; after reset it returns 0. -/
def Obligations.StatusReadsItsFields : Prop :=
  ∀ s : State,
    let w := s.statusWord
    serveAccess (.read 0x004 4) s = .next { s with rdata := some w } ∧
    w.getLsbD 0 = s.host.busy ∧ w.getLsbD 1 = s.act.cfgValid ∧ w.getLsbD 2 = s.rx.locked ∧
    w.getLsbD 3 = s.sess.hsOutValid ∧ w.getLsbD 4 = s.sess.hangupLocalSent ∧
    w.getLsbD 5 = s.sess.hangupRemotePending ∧ w.getLsbD 6 = s.sess.hangupRemoteLatch ∧
    w.getLsbD 7 = s.act.fecEn ∧
    (w.extractLsb' 8 4).toNat = (match s.sess.state with
      | .uninitialized => 0 | .idle => 1 | .handshaking => 2 | .established => 3 | .stopping => 4 | .terminated => 5) ∧
    (w.getLsbD 12 = true ↔ s.sess.role = .client) ∧
    (w.extractLsb' 13 2).toNat = (match s.sess.termKind with
      | .noTerm => 0 | .normal => 1 | .hangup => 2 | .error => 3) ∧
    w.getLsbD 15 = s.sess.keypairValid ∧ w.extractLsb' 16 8 = s.sess.termReason ∧ w.extractLsb' 24 8 = 0 ∧
    (State.resetWith s.params).statusWord = 0

/-- R89, R91, R92: the three data ports: a write of `DIN_DATA` pushes the low half of the word or is dropped and sets
`DIN_OVERFLOW`; a read of `DOUT_DATA` or `EV_DATA` pops the oldest element or returns 0 and sets the underflow bit; a read
of `DIN_DATA` and a write of the other two do nothing. -/
def Obligations.DataPortsPushAndPop : Prop :=
  ∀ (s : State) (v : Word),
    (s.host.din.length < s.params.dinCap → serveAccess (.write 0x018 4 v) s =
      .next { s with host := { s.host with din := s.host.din ++ [v.extractLsb' 0 16] } }) ∧
    (s.params.dinCap ≤ s.host.din.length → serveAccess (.write 0x018 4 v) s =
      .next { s with host := { s.host with dinOverflow := true } }) ∧
    serveAccess (.read 0x018 4) s = .next { s with rdata := some 0 } ∧
    (∀ e rest, s.host.dout = e :: rest → serveAccess (.read 0x020 4) s =
      .next { s with rdata := some (BitVec.ofNat 32 e.toNat), host := { s.host with dout := rest } }) ∧
    (s.host.dout = [] → serveAccess (.read 0x020 4) s =
      .next { s with rdata := some 0, host := { s.host with doutUnderflow := true } }) ∧
    serveAccess (.write 0x020 4 v) s = .next s ∧
    (∀ w rest, s.queues.evq = w :: rest → serveAccess (.read 0x028 4) s =
      .next { s with rdata := some w, queues := { s.queues with evq := rest } }) ∧
    (s.queues.evq = [] → serveAccess (.read 0x028 4) s =
      .next { s with rdata := some 0, host := { s.host with evUnderflow := true } }) ∧
    serveAccess (.write 0x028 4 v) s = .next s

/-- R93, R366, R367: a write to `INT_STATUS` clears exactly the sticky bits written 1 and no level bit, `INT_ENABLE` keeps
only its ten bits, and `irq` is 1 exactly when an enabled status bit is 1. -/
def Obligations.InterruptRegistersFollowTheirRules : Prop :=
  ∀ (s : State) (v : Word),
    (∃ t, serveAccess (.write 0x030 4 v) s = .next t ∧
      t.intStatus = s.intStatus &&& ~~~(v &&& 0x00003F00) ∧
      t = { s with host := { s.host with
        cmdErr := t.host.cmdErr, dinOverflow := t.host.dinOverflow, doutUnderflow := t.host.doutUnderflow
        evUnderflow := t.host.evUnderflow, cmdOverrun := t.host.cmdOverrun, queueDrop := t.host.queueDrop } }) ∧
    serveAccess (.write 0x034 4 v) s =
      .next { s with host := { s.host with intEnable := v &&& 0x00003F0F } } ∧
    (s.intStatus.getLsbD 0 = true ↔ s.queues.evq ≠ []) ∧
    (s.intStatus.getLsbD 1 = true ↔ s.sess.hsOutValid = true) ∧
    (s.intStatus.getLsbD 2 = true ↔ s.queues.rxq ≠ []) ∧
    (s.intStatus.getLsbD 3 = true ↔ s.queues.txq ≠ []) ∧
    s.intStatus.getLsbD 8 = s.host.cmdErr ∧ s.intStatus.getLsbD 9 = s.host.dinOverflow ∧
    s.intStatus.getLsbD 10 = s.host.doutUnderflow ∧ s.intStatus.getLsbD 11 = s.host.evUnderflow ∧
    s.intStatus.getLsbD 12 = s.host.cmdOverrun ∧ s.intStatus.getLsbD 13 = s.host.queueDrop ∧
    s.intStatus &&& 0xFFFFC0F0 = 0 ∧
    (s.irq = true ↔ ∃ i < 32, s.intStatus.getLsbD i = true ∧ s.host.intEnable.getLsbD i = true)

/-- R83 to R96, R100: what is written to a shadow register is read back, unimplemented bits as 0, and nothing else changes;
every other offset but `CMD`, `DIN_DATA`, `INT_STATUS` and `INT_ENABLE` ignores a write; no read but of the two ports has an
effect, and every other read returns the register of the map of R83: each field in its bits, the other bits 0 (counts modulo
2^32: log 13), and 0 from a write-only or reserved offset. -/
def Obligations.ShadowRegistersStoreAndOtherWritesAreIgnored : Prop :=
  ∀ (s : State) (v : Word) (off : Nat), off % 4 = 0 → off < 0x200 →
    (0x040 ≤ off → off ≤ 0x064 →
      ∃ t, serveAccess (.write off 4 v) s = .next t ∧ t = { s with cfg := t.cfg } ∧
        t.regValue off = v &&& (if off = 0x058 then 0x00000003 else if off = 0x05C then 0x000000FF else 0xFFFFFFFF) ∧
        ∀ o, 0x040 ≤ o → o ≤ 0x064 → o % 4 = 0 → o ≠ off → t.regValue o = s.regValue o) ∧
    (¬(0x040 ≤ off ∧ off ≤ 0x064) → off ∉ [0x008, 0x018, 0x030, 0x034] → serveAccess (.write off 4 v) s = .next s) ∧
    (off ∉ [0x020, 0x028] → serveAccess (.read off 4) s = .next { s with rdata := some (s.regValue off) }) ∧
    (off ∈ [0x008, 0x018, 0x038, 0x03C, 0x0BC, 0x0D8, 0x0DC, 0x0F4, 0x0F8, 0x0FC] ∨ (0x068 ≤ off ∧ off < 0x080) ∨
      0x124 ≤ off → s.regValue off = 0) ∧
    s.regValue 0x000 = 0x42544331 ∧ s.regValue 0x004 = s.statusWord ∧
    ((s.regValue 0x00C).extractLsb' 0 8 = s.host.errCode ∧ (s.regValue 0x00C).extractLsb' 8 8 = s.host.errDetail ∧
      (s.regValue 0x00C).extractLsb' 16 16 = 0) ∧
    s.regValue 0x010 = s.host.result0 ∧ s.regValue 0x014 = s.host.result1 ∧
    s.regValue 0x01C = BitVec.ofNat 32 s.host.din.length ∧ s.regValue 0x024 = BitVec.ofNat 32 s.host.dout.length ∧
    s.regValue 0x02C = BitVec.ofNat 32 s.queues.evq.length ∧
    s.regValue 0x030 = s.intStatus ∧ s.regValue 0x034 = s.host.intEnable ∧
    s.regValue 0x040 = s.cfg.sampleRate ∧ s.regValue 0x044 = s.cfg.symbolRate ∧
    (∀ k : Symbol, s.regValue (0x048 + 4 * k.val) = s.cfg.freq.get k) ∧
    (s.regValue 0x058).toNat = s.cfg.flags.toNat ∧ (s.regValue 0x05C).toNat = s.cfg.fecStrength.toNat ∧
    s.regValue 0x060 = s.cfg.codecMode ∧ s.regValue 0x064 = s.cfg.hsTimeout ∧
    s.regValue 0x080 = s.act.sampleRate ∧ s.regValue 0x084 = s.act.symbolRate ∧
    (∀ k : Symbol, s.regValue (0x088 + 4 * k.val) = s.act.freq.get k) ∧
    ((s.regValue 0x098).getLsbD 0 = s.act.fecEn ∧ (s.regValue 0x098).getLsbD 1 = s.act.debugLog ∧
      (s.regValue 0x098).getLsbD 2 = s.act.trackEn ∧ (s.regValue 0x098).getLsbD 3 = s.act.cfgValid ∧
      (s.regValue 0x098).extractLsb' 4 28 = 0) ∧
    (s.regValue 0x09C).toNat = s.act.fecStrength.toNat ∧ s.regValue 0x0A0 = s.act.codecMode ∧
    s.regValue 0x0A4 = s.act.hsTimeout ∧ (s.regValue 0x0A8).toNat = s.act.sps.toNat ∧
    (∀ k : Symbol, s.regValue (0x0AC + 4 * k.val) = s.act.fcw.get k) ∧
    s.regValue 0x0C0 = s.tx.symbolsTx ∧ s.regValue 0x0C4 = s.rx.symbolsRx ∧ s.regValue 0x0C8 = s.rx.syncLosses ∧
    (s.regValue 0x0CC).toInt = s.rx.timingErr.toInt ∧
    ((s.regValue 0x0D0).getLsbD 0 = s.rx.locked ∧ (s.regValue 0x0D0).extractLsb' 4 4 = s.rx.lockq ∧
      (s.regValue 0x0D0).extractLsb' 8 2 = s.rx.nsym ∧ (s.regValue 0x0D0).extractLsb' 16 13 = s.rx.clk ∧
      s.regValue 0x0D0 &&& 0xE000FC0E = 0) ∧
    ((s.regValue 0x0D4).extractLsb' 0 13 = s.rx.wlen ∧ (s.regValue 0x0D4).extractLsb' 16 12 = s.rx.half ∧
      s.regValue 0x0D4 &&& 0xF000E000 = 0) ∧
    s.regValue 0x0E0 = s.fec.encodes ∧ s.regValue 0x0E4 = s.fec.decodes ∧ s.regValue 0x0E8 = s.fec.clean ∧
    s.regValue 0x0EC = s.fec.corrected ∧ s.regValue 0x0F0 = s.fec.uncorrectable ∧
    s.regValue 0x100 = s.pipe.framesLost ∧ s.regValue 0x104 = s.pipe.framesTx ∧ s.regValue 0x108 = s.pipe.framesRx ∧
    s.regValue 0x10C = BitVec.ofNat 32 s.queues.txq.length ∧ s.regValue 0x110 = BitVec.ofNat 32 s.queues.rxq.length ∧
    s.regValue 0x114 = s.queues.txqDrops ∧ s.regValue 0x118 = s.queues.rxqDrops ∧
    s.regValue 0x11C = s.queues.evDrops ∧ s.regValue 0x120 = s.sess.hsTimer
end

