-- ==== Sys2Proof/Laws/State.lean ====
section
/-! SUPPORT. One simp lemma per field of State for each named update of it, so that no proof unfolds a record update. -/

namespace Sys2Proof.Machine

/-! ## emit -/

@[simp] theorem State.emit_params (s : State) (code arg : Nat) : (s.emit code arg).params = s.params := rfl
@[simp] theorem State.emit_pending (s : State) (code arg : Nat) : (s.emit code arg).pending = s.pending := rfl
@[simp] theorem State.emit_rdata (s : State) (code arg : Nat) : (s.emit code arg).rdata = s.rdata := rfl
@[simp] theorem State.emit_host (s : State) (code arg : Nat) : (s.emit code arg).host =
    s.host.noteDrop (dropsOldest s.queues.evq s.params.evqDepth) := rfl
@[simp] theorem State.emit_cfg (s : State) (code arg : Nat) : (s.emit code arg).cfg = s.cfg := rfl
@[simp] theorem State.emit_act (s : State) (code arg : Nat) : (s.emit code arg).act = s.act := rfl
@[simp] theorem State.emit_tx (s : State) (code arg : Nat) : (s.emit code arg).tx = s.tx := rfl
@[simp] theorem State.emit_rx (s : State) (code arg : Nat) : (s.emit code arg).rx = s.rx := rfl
@[simp] theorem State.emit_fec (s : State) (code arg : Nat) : (s.emit code arg).fec = s.fec := rfl
@[simp] theorem State.emit_sess (s : State) (code arg : Nat) : (s.emit code arg).sess = s.sess := rfl
@[simp] theorem State.emit_pipe (s : State) (code arg : Nat) : (s.emit code arg).pipe = s.pipe := rfl
@[simp] theorem State.emit_queues (s : State) (code arg : Nat) : (s.emit code arg).queues =
    { s.queues with
      evq := pushDropOldest s.queues.evq (eventWord code arg) s.params.evqDepth
      evDrops := countDrop s.queues.evDrops (dropsOldest s.queues.evq s.params.evqDepth) } := rfl

/-! ## pushTxq -/

@[simp] theorem State.pushTxq_params (s : State) (pcm : List Entry) : (s.pushTxq pcm).params = s.params := rfl
@[simp] theorem State.pushTxq_pending (s : State) (pcm : List Entry) : (s.pushTxq pcm).pending = s.pending := rfl
@[simp] theorem State.pushTxq_rdata (s : State) (pcm : List Entry) : (s.pushTxq pcm).rdata = s.rdata := rfl
@[simp] theorem State.pushTxq_host (s : State) (pcm : List Entry) : (s.pushTxq pcm).host =
    s.host.noteDrop (dropsOldest s.queues.txq s.params.txqDepth) := rfl
@[simp] theorem State.pushTxq_cfg (s : State) (pcm : List Entry) : (s.pushTxq pcm).cfg = s.cfg := rfl
@[simp] theorem State.pushTxq_act (s : State) (pcm : List Entry) : (s.pushTxq pcm).act = s.act := rfl
@[simp] theorem State.pushTxq_tx (s : State) (pcm : List Entry) : (s.pushTxq pcm).tx = s.tx := rfl
@[simp] theorem State.pushTxq_rx (s : State) (pcm : List Entry) : (s.pushTxq pcm).rx = s.rx := rfl
@[simp] theorem State.pushTxq_fec (s : State) (pcm : List Entry) : (s.pushTxq pcm).fec = s.fec := rfl
@[simp] theorem State.pushTxq_sess (s : State) (pcm : List Entry) : (s.pushTxq pcm).sess = s.sess := rfl
@[simp] theorem State.pushTxq_pipe (s : State) (pcm : List Entry) : (s.pushTxq pcm).pipe = s.pipe := rfl
@[simp] theorem State.pushTxq_queues (s : State) (pcm : List Entry) : (s.pushTxq pcm).queues =
    { s.queues with
      txq := pushDropOldest s.queues.txq pcm s.params.txqDepth
      txqDrops := countDrop s.queues.txqDrops (dropsOldest s.queues.txq s.params.txqDepth) } := rfl

/-! ## pushRxq -/

@[simp] theorem State.pushRxq_params (s : State) (payload : List Byte) : (s.pushRxq payload).params = s.params := rfl
@[simp] theorem State.pushRxq_pending (s : State) (payload : List Byte) : (s.pushRxq payload).pending = s.pending := rfl
@[simp] theorem State.pushRxq_rdata (s : State) (payload : List Byte) : (s.pushRxq payload).rdata = s.rdata := rfl
@[simp] theorem State.pushRxq_host (s : State) (payload : List Byte) : (s.pushRxq payload).host =
    s.host.noteDrop (dropsOldest s.queues.rxq s.params.rxqDepth) := rfl
@[simp] theorem State.pushRxq_cfg (s : State) (payload : List Byte) : (s.pushRxq payload).cfg = s.cfg := rfl
@[simp] theorem State.pushRxq_act (s : State) (payload : List Byte) : (s.pushRxq payload).act = s.act := rfl
@[simp] theorem State.pushRxq_tx (s : State) (payload : List Byte) : (s.pushRxq payload).tx = s.tx := rfl
@[simp] theorem State.pushRxq_rx (s : State) (payload : List Byte) : (s.pushRxq payload).rx = s.rx := rfl
@[simp] theorem State.pushRxq_fec (s : State) (payload : List Byte) : (s.pushRxq payload).fec = s.fec := rfl
@[simp] theorem State.pushRxq_sess (s : State) (payload : List Byte) : (s.pushRxq payload).sess = s.sess := rfl
@[simp] theorem State.pushRxq_pipe (s : State) (payload : List Byte) : (s.pushRxq payload).pipe = s.pipe := rfl
@[simp] theorem State.pushRxq_queues (s : State) (payload : List Byte) : (s.pushRxq payload).queues =
    { s.queues with
      rxq := pushDropOldest s.queues.rxq payload s.params.rxqDepth
      rxqDrops := countDrop s.queues.rxqDrops (dropsOldest s.queues.rxq s.params.rxqDepth) } := rfl

/-! ## setResult0 -/

@[simp] theorem State.setResult0_params (s : State) (v : Word) : (s.setResult0 v).params = s.params := rfl
@[simp] theorem State.setResult0_pending (s : State) (v : Word) : (s.setResult0 v).pending = s.pending := rfl
@[simp] theorem State.setResult0_rdata (s : State) (v : Word) : (s.setResult0 v).rdata = s.rdata := rfl
@[simp] theorem State.setResult0_host (s : State) (v : Word) : (s.setResult0 v).host =
    { s.host with result0 := v } := rfl
@[simp] theorem State.setResult0_cfg (s : State) (v : Word) : (s.setResult0 v).cfg = s.cfg := rfl
@[simp] theorem State.setResult0_act (s : State) (v : Word) : (s.setResult0 v).act = s.act := rfl
@[simp] theorem State.setResult0_tx (s : State) (v : Word) : (s.setResult0 v).tx = s.tx := rfl
@[simp] theorem State.setResult0_rx (s : State) (v : Word) : (s.setResult0 v).rx = s.rx := rfl
@[simp] theorem State.setResult0_fec (s : State) (v : Word) : (s.setResult0 v).fec = s.fec := rfl
@[simp] theorem State.setResult0_sess (s : State) (v : Word) : (s.setResult0 v).sess = s.sess := rfl
@[simp] theorem State.setResult0_pipe (s : State) (v : Word) : (s.setResult0 v).pipe = s.pipe := rfl
@[simp] theorem State.setResult0_queues (s : State) (v : Word) : (s.setResult0 v).queues = s.queues := rfl

/-! ## setResult1 -/

@[simp] theorem State.setResult1_params (s : State) (v : Word) : (s.setResult1 v).params = s.params := rfl
@[simp] theorem State.setResult1_pending (s : State) (v : Word) : (s.setResult1 v).pending = s.pending := rfl
@[simp] theorem State.setResult1_rdata (s : State) (v : Word) : (s.setResult1 v).rdata = s.rdata := rfl
@[simp] theorem State.setResult1_host (s : State) (v : Word) : (s.setResult1 v).host =
    { s.host with result1 := v } := rfl
@[simp] theorem State.setResult1_cfg (s : State) (v : Word) : (s.setResult1 v).cfg = s.cfg := rfl
@[simp] theorem State.setResult1_act (s : State) (v : Word) : (s.setResult1 v).act = s.act := rfl
@[simp] theorem State.setResult1_tx (s : State) (v : Word) : (s.setResult1 v).tx = s.tx := rfl
@[simp] theorem State.setResult1_rx (s : State) (v : Word) : (s.setResult1 v).rx = s.rx := rfl
@[simp] theorem State.setResult1_fec (s : State) (v : Word) : (s.setResult1 v).fec = s.fec := rfl
@[simp] theorem State.setResult1_sess (s : State) (v : Word) : (s.setResult1 v).sess = s.sess := rfl
@[simp] theorem State.setResult1_pipe (s : State) (v : Word) : (s.setResult1 v).pipe = s.pipe := rfl
@[simp] theorem State.setResult1_queues (s : State) (v : Word) : (s.setResult1 v).queues = s.queues := rfl

/-! ## clearResults -/

@[simp] theorem State.clearResults_params (s : State) : s.clearResults.params = s.params := rfl
@[simp] theorem State.clearResults_pending (s : State) : s.clearResults.pending = s.pending := rfl
@[simp] theorem State.clearResults_rdata (s : State) : s.clearResults.rdata = s.rdata := rfl
@[simp] theorem State.clearResults_host (s : State) : s.clearResults.host =
    { s.host with result0 := 0, result1 := 0 } := rfl
@[simp] theorem State.clearResults_cfg (s : State) : s.clearResults.cfg = s.cfg := rfl
@[simp] theorem State.clearResults_act (s : State) : s.clearResults.act = s.act := rfl
@[simp] theorem State.clearResults_tx (s : State) : s.clearResults.tx = s.tx := rfl
@[simp] theorem State.clearResults_rx (s : State) : s.clearResults.rx = s.rx := rfl
@[simp] theorem State.clearResults_fec (s : State) : s.clearResults.fec = s.fec := rfl
@[simp] theorem State.clearResults_sess (s : State) : s.clearResults.sess = s.sess := rfl
@[simp] theorem State.clearResults_pipe (s : State) : s.clearResults.pipe = s.pipe := rfl
@[simp] theorem State.clearResults_queues (s : State) : s.clearResults.queues = s.queues := rfl

/-! ## setDin -/

@[simp] theorem State.setDin_params (s : State) (din : List Entry) : (s.setDin din).params = s.params := rfl
@[simp] theorem State.setDin_pending (s : State) (din : List Entry) : (s.setDin din).pending = s.pending := rfl
@[simp] theorem State.setDin_rdata (s : State) (din : List Entry) : (s.setDin din).rdata = s.rdata := rfl
@[simp] theorem State.setDin_host (s : State) (din : List Entry) : (s.setDin din).host =
    { s.host with din := din } := rfl
@[simp] theorem State.setDin_cfg (s : State) (din : List Entry) : (s.setDin din).cfg = s.cfg := rfl
@[simp] theorem State.setDin_act (s : State) (din : List Entry) : (s.setDin din).act = s.act := rfl
@[simp] theorem State.setDin_tx (s : State) (din : List Entry) : (s.setDin din).tx = s.tx := rfl
@[simp] theorem State.setDin_rx (s : State) (din : List Entry) : (s.setDin din).rx = s.rx := rfl
@[simp] theorem State.setDin_fec (s : State) (din : List Entry) : (s.setDin din).fec = s.fec := rfl
@[simp] theorem State.setDin_sess (s : State) (din : List Entry) : (s.setDin din).sess = s.sess := rfl
@[simp] theorem State.setDin_pipe (s : State) (din : List Entry) : (s.setDin din).pipe = s.pipe := rfl
@[simp] theorem State.setDin_queues (s : State) (din : List Entry) : (s.setDin din).queues = s.queues := rfl

/-! ## pushDout -/

@[simp] theorem State.pushDout_params (s : State) (es : List Entry) : (s.pushDout es).params = s.params := rfl
@[simp] theorem State.pushDout_pending (s : State) (es : List Entry) : (s.pushDout es).pending = s.pending := rfl
@[simp] theorem State.pushDout_rdata (s : State) (es : List Entry) : (s.pushDout es).rdata = s.rdata := rfl
@[simp] theorem State.pushDout_host (s : State) (es : List Entry) : (s.pushDout es).host =
    { s.host with dout := s.host.dout ++ es } := rfl
@[simp] theorem State.pushDout_cfg (s : State) (es : List Entry) : (s.pushDout es).cfg = s.cfg := rfl
@[simp] theorem State.pushDout_act (s : State) (es : List Entry) : (s.pushDout es).act = s.act := rfl
@[simp] theorem State.pushDout_tx (s : State) (es : List Entry) : (s.pushDout es).tx = s.tx := rfl
@[simp] theorem State.pushDout_rx (s : State) (es : List Entry) : (s.pushDout es).rx = s.rx := rfl
@[simp] theorem State.pushDout_fec (s : State) (es : List Entry) : (s.pushDout es).fec = s.fec := rfl
@[simp] theorem State.pushDout_sess (s : State) (es : List Entry) : (s.pushDout es).sess = s.sess := rfl
@[simp] theorem State.pushDout_pipe (s : State) (es : List Entry) : (s.pushDout es).pipe = s.pipe := rfl
@[simp] theorem State.pushDout_queues (s : State) (es : List Entry) : (s.pushDout es).queues = s.queues := rfl

/-! ## takeError -/

@[simp] theorem State.takeError_params (s : State) (e : CmdError) (d : Byte) : (s.takeError e d).params =
    s.params := rfl
@[simp] theorem State.takeError_pending (s : State) (e : CmdError) (d : Byte) : (s.takeError e d).pending =
    s.pending := rfl
@[simp] theorem State.takeError_rdata (s : State) (e : CmdError) (d : Byte) : (s.takeError e d).rdata = s.rdata := rfl
@[simp] theorem State.takeError_host (s : State) (e : CmdError) (d : Byte) : (s.takeError e d).host =
    { s.host with errCode := e.code, errDetail := d, cmdErr := true } := rfl
@[simp] theorem State.takeError_cfg (s : State) (e : CmdError) (d : Byte) : (s.takeError e d).cfg = s.cfg := rfl
@[simp] theorem State.takeError_act (s : State) (e : CmdError) (d : Byte) : (s.takeError e d).act = s.act := rfl
@[simp] theorem State.takeError_tx (s : State) (e : CmdError) (d : Byte) : (s.takeError e d).tx = s.tx := rfl
@[simp] theorem State.takeError_rx (s : State) (e : CmdError) (d : Byte) : (s.takeError e d).rx = s.rx := rfl
@[simp] theorem State.takeError_fec (s : State) (e : CmdError) (d : Byte) : (s.takeError e d).fec = s.fec := rfl
@[simp] theorem State.takeError_sess (s : State) (e : CmdError) (d : Byte) : (s.takeError e d).sess = s.sess := rfl
@[simp] theorem State.takeError_pipe (s : State) (e : CmdError) (d : Byte) : (s.takeError e d).pipe = s.pipe := rfl
@[simp] theorem State.takeError_queues (s : State) (e : CmdError) (d : Byte) : (s.takeError e d).queues =
    s.queues := rfl

/-! ## endSuccess -/

@[simp] theorem State.endSuccess_params (s : State) : s.endSuccess.params = s.params := rfl
@[simp] theorem State.endSuccess_pending (s : State) : s.endSuccess.pending = s.pending := rfl
@[simp] theorem State.endSuccess_rdata (s : State) : s.endSuccess.rdata = s.rdata := rfl
@[simp] theorem State.endSuccess_host (s : State) : s.endSuccess.host =
    { s.host with errCode := 0, errDetail := 0 } := rfl
@[simp] theorem State.endSuccess_cfg (s : State) : s.endSuccess.cfg = s.cfg := rfl
@[simp] theorem State.endSuccess_act (s : State) : s.endSuccess.act = s.act := rfl
@[simp] theorem State.endSuccess_tx (s : State) : s.endSuccess.tx = s.tx := rfl
@[simp] theorem State.endSuccess_rx (s : State) : s.endSuccess.rx = s.rx := rfl
@[simp] theorem State.endSuccess_fec (s : State) : s.endSuccess.fec = s.fec := rfl
@[simp] theorem State.endSuccess_sess (s : State) : s.endSuccess.sess = s.sess := rfl
@[simp] theorem State.endSuccess_pipe (s : State) : s.endSuccess.pipe = s.pipe := rfl
@[simp] theorem State.endSuccess_queues (s : State) : s.endSuccess.queues = s.queues := rfl

/-! ## modemReset -/

@[simp] theorem State.modemReset_params (s : State) : s.modemReset.params = s.params := rfl
@[simp] theorem State.modemReset_pending (s : State) : s.modemReset.pending = s.pending := rfl
@[simp] theorem State.modemReset_rdata (s : State) : s.modemReset.rdata = s.rdata := rfl
@[simp] theorem State.modemReset_host (s : State) : s.modemReset.host = s.host := rfl
@[simp] theorem State.modemReset_cfg (s : State) : s.modemReset.cfg = s.cfg := rfl
@[simp] theorem State.modemReset_act (s : State) : s.modemReset.act = s.act := rfl
@[simp] theorem State.modemReset_tx (s : State) : s.modemReset.tx = { s.tx with phase := 0 } := rfl
@[simp] theorem State.modemReset_rx (s : State) : s.modemReset.rx = s.rx.modemReset s.act.sps := rfl
@[simp] theorem State.modemReset_fec (s : State) : s.modemReset.fec = s.fec := rfl
@[simp] theorem State.modemReset_sess (s : State) : s.modemReset.sess = s.sess := rfl
@[simp] theorem State.modemReset_pipe (s : State) : s.modemReset.pipe = s.pipe := rfl
@[simp] theorem State.modemReset_queues (s : State) : s.modemReset.queues = s.queues := rfl

/-! ## wipe -/

@[simp] theorem State.wipe_params (s : State) : s.wipe.params = s.params := rfl
@[simp] theorem State.wipe_pending (s : State) : s.wipe.pending = s.pending := rfl
@[simp] theorem State.wipe_rdata (s : State) : s.wipe.rdata = s.rdata := rfl
@[simp] theorem State.wipe_host (s : State) : s.wipe.host = { s.host with din := [], dout := [] } := rfl
@[simp] theorem State.wipe_cfg (s : State) : s.wipe.cfg = s.cfg := rfl
@[simp] theorem State.wipe_act (s : State) : s.wipe.act = s.act := rfl
@[simp] theorem State.wipe_tx (s : State) : s.wipe.tx = { s.tx with phase := 0 } := rfl
@[simp] theorem State.wipe_rx (s : State) : s.wipe.rx = s.rx.modemReset s.act.sps := rfl
@[simp] theorem State.wipe_fec (s : State) : s.wipe.fec = s.fec := rfl
@[simp] theorem State.wipe_sess (s : State) : s.wipe.sess = s.sess.wipe s.params := rfl
@[simp] theorem State.wipe_pipe (s : State) : s.wipe.pipe = s.pipe := rfl
@[simp] theorem State.wipe_queues (s : State) : s.wipe.queues = { s.queues with txq := [], rxq := [] } := rfl

/-! ## terminate -/

@[simp] theorem State.terminate_params (s : State) (kind : TermKind) (reason : Byte) : (s.terminate kind reason).params =
    s.params := rfl
@[simp] theorem State.terminate_pending (s : State) (kind : TermKind) (reason : Byte) : (s.terminate kind reason).pending =
    s.pending := rfl
@[simp] theorem State.terminate_rdata (s : State) (kind : TermKind) (reason : Byte) : (s.terminate kind reason).rdata =
    s.rdata := rfl
@[simp] theorem State.terminate_host (s : State) (kind : TermKind) (reason : Byte) : (s.terminate kind reason).host =
    s.host := rfl
@[simp] theorem State.terminate_cfg (s : State) (kind : TermKind) (reason : Byte) : (s.terminate kind reason).cfg =
    s.cfg := rfl
@[simp] theorem State.terminate_act (s : State) (kind : TermKind) (reason : Byte) : (s.terminate kind reason).act =
    s.act := rfl
@[simp] theorem State.terminate_tx (s : State) (kind : TermKind) (reason : Byte) : (s.terminate kind reason).tx =
    s.tx := rfl
@[simp] theorem State.terminate_rx (s : State) (kind : TermKind) (reason : Byte) : (s.terminate kind reason).rx =
    s.rx := rfl
@[simp] theorem State.terminate_fec (s : State) (kind : TermKind) (reason : Byte) : (s.terminate kind reason).fec =
    s.fec := rfl
@[simp] theorem State.terminate_sess (s : State) (kind : TermKind) (reason : Byte) : (s.terminate kind reason).sess =
    { s.sess with state := .terminated, termKind := kind, termReason := reason } := rfl
@[simp] theorem State.terminate_pipe (s : State) (kind : TermKind) (reason : Byte) : (s.terminate kind reason).pipe =
    s.pipe := rfl
@[simp] theorem State.terminate_queues (s : State) (kind : TermKind) (reason : Byte) : (s.terminate kind reason).queues =
    s.queues := rfl

/-! ## countEncode -/

@[simp] theorem State.countEncode_params (s : State) : s.countEncode.params = s.params := rfl
@[simp] theorem State.countEncode_pending (s : State) : s.countEncode.pending = s.pending := rfl
@[simp] theorem State.countEncode_rdata (s : State) : s.countEncode.rdata = s.rdata := rfl
@[simp] theorem State.countEncode_host (s : State) : s.countEncode.host = s.host := rfl
@[simp] theorem State.countEncode_cfg (s : State) : s.countEncode.cfg = s.cfg := rfl
@[simp] theorem State.countEncode_act (s : State) : s.countEncode.act = s.act := rfl
@[simp] theorem State.countEncode_tx (s : State) : s.countEncode.tx = s.tx := rfl
@[simp] theorem State.countEncode_rx (s : State) : s.countEncode.rx = s.rx := rfl
@[simp] theorem State.countEncode_fec (s : State) : s.countEncode.fec =
    { s.fec with encodes := satInc s.fec.encodes } := rfl
@[simp] theorem State.countEncode_sess (s : State) : s.countEncode.sess = s.sess := rfl
@[simp] theorem State.countEncode_pipe (s : State) : s.countEncode.pipe = s.pipe := rfl
@[simp] theorem State.countEncode_queues (s : State) : s.countEncode.queues = s.queues := rfl

/-! ## countDecode -/

@[simp] theorem State.countDecode_params (s : State) : s.countDecode.params = s.params := rfl
@[simp] theorem State.countDecode_pending (s : State) : s.countDecode.pending = s.pending := rfl
@[simp] theorem State.countDecode_rdata (s : State) : s.countDecode.rdata = s.rdata := rfl
@[simp] theorem State.countDecode_host (s : State) : s.countDecode.host = s.host := rfl
@[simp] theorem State.countDecode_cfg (s : State) : s.countDecode.cfg = s.cfg := rfl
@[simp] theorem State.countDecode_act (s : State) : s.countDecode.act = s.act := rfl
@[simp] theorem State.countDecode_tx (s : State) : s.countDecode.tx = s.tx := rfl
@[simp] theorem State.countDecode_rx (s : State) : s.countDecode.rx = s.rx := rfl
@[simp] theorem State.countDecode_fec (s : State) : s.countDecode.fec =
    { s.fec with decodes := satInc s.fec.decodes } := rfl
@[simp] theorem State.countDecode_sess (s : State) : s.countDecode.sess = s.sess := rfl
@[simp] theorem State.countDecode_pipe (s : State) : s.countDecode.pipe = s.pipe := rfl
@[simp] theorem State.countDecode_queues (s : State) : s.countDecode.queues = s.queues := rfl

/-! ## countUncorrectable -/

@[simp] theorem State.countUncorrectable_params (s : State) : s.countUncorrectable.params = s.params := rfl
@[simp] theorem State.countUncorrectable_pending (s : State) : s.countUncorrectable.pending = s.pending := rfl
@[simp] theorem State.countUncorrectable_rdata (s : State) : s.countUncorrectable.rdata = s.rdata := rfl
@[simp] theorem State.countUncorrectable_host (s : State) : s.countUncorrectable.host = s.host := rfl
@[simp] theorem State.countUncorrectable_cfg (s : State) : s.countUncorrectable.cfg = s.cfg := rfl
@[simp] theorem State.countUncorrectable_act (s : State) : s.countUncorrectable.act = s.act := rfl
@[simp] theorem State.countUncorrectable_tx (s : State) : s.countUncorrectable.tx = s.tx := rfl
@[simp] theorem State.countUncorrectable_rx (s : State) : s.countUncorrectable.rx = s.rx := rfl
@[simp] theorem State.countUncorrectable_fec (s : State) : s.countUncorrectable.fec =
    { s.fec with uncorrectable := satInc s.fec.uncorrectable } := rfl
@[simp] theorem State.countUncorrectable_sess (s : State) : s.countUncorrectable.sess = s.sess := rfl
@[simp] theorem State.countUncorrectable_pipe (s : State) : s.countUncorrectable.pipe = s.pipe := rfl
@[simp] theorem State.countUncorrectable_queues (s : State) : s.countUncorrectable.queues = s.queues := rfl

/-! ## countCorrected -/

@[simp] theorem State.countCorrected_params (s : State) (cnt : Nat) : (s.countCorrected cnt).params = s.params := rfl
@[simp] theorem State.countCorrected_pending (s : State) (cnt : Nat) : (s.countCorrected cnt).pending = s.pending := rfl
@[simp] theorem State.countCorrected_rdata (s : State) (cnt : Nat) : (s.countCorrected cnt).rdata = s.rdata := rfl
@[simp] theorem State.countCorrected_host (s : State) (cnt : Nat) : (s.countCorrected cnt).host = s.host := rfl
@[simp] theorem State.countCorrected_cfg (s : State) (cnt : Nat) : (s.countCorrected cnt).cfg = s.cfg := rfl
@[simp] theorem State.countCorrected_act (s : State) (cnt : Nat) : (s.countCorrected cnt).act = s.act := rfl
@[simp] theorem State.countCorrected_tx (s : State) (cnt : Nat) : (s.countCorrected cnt).tx = s.tx := rfl
@[simp] theorem State.countCorrected_rx (s : State) (cnt : Nat) : (s.countCorrected cnt).rx = s.rx := rfl
@[simp] theorem State.countCorrected_fec (s : State) (cnt : Nat) : (s.countCorrected cnt).fec =
    { s.fec with
      clean := if cnt = 0 then satInc s.fec.clean else s.fec.clean
      corrected := satInc s.fec.corrected cnt } := rfl
@[simp] theorem State.countCorrected_sess (s : State) (cnt : Nat) : (s.countCorrected cnt).sess = s.sess := rfl
@[simp] theorem State.countCorrected_pipe (s : State) (cnt : Nat) : (s.countCorrected cnt).pipe = s.pipe := rfl
@[simp] theorem State.countCorrected_queues (s : State) (cnt : Nat) : (s.countCorrected cnt).queues = s.queues := rfl

/-! ## lost -/

@[simp] theorem State.lost_params (s : State) (reason : Nat) : (s.lost reason).params = s.params := rfl
@[simp] theorem State.lost_pending (s : State) (reason : Nat) : (s.lost reason).pending = s.pending := rfl
@[simp] theorem State.lost_rdata (s : State) (reason : Nat) : (s.lost reason).rdata = s.rdata := rfl
@[simp] theorem State.lost_host (s : State) (reason : Nat) : (s.lost reason).host =
    s.host.noteDrop (dropsOldest s.queues.evq s.params.evqDepth) := rfl
@[simp] theorem State.lost_cfg (s : State) (reason : Nat) : (s.lost reason).cfg = s.cfg := rfl
@[simp] theorem State.lost_act (s : State) (reason : Nat) : (s.lost reason).act = s.act := rfl
@[simp] theorem State.lost_tx (s : State) (reason : Nat) : (s.lost reason).tx = s.tx := rfl
@[simp] theorem State.lost_rx (s : State) (reason : Nat) : (s.lost reason).rx = s.rx := rfl
@[simp] theorem State.lost_fec (s : State) (reason : Nat) : (s.lost reason).fec = s.fec := rfl
@[simp] theorem State.lost_sess (s : State) (reason : Nat) : (s.lost reason).sess = s.sess := rfl
@[simp] theorem State.lost_pipe (s : State) (reason : Nat) : (s.lost reason).pipe =
    { s.pipe with framesLost := satInc s.pipe.framesLost } := rfl
@[simp] theorem State.lost_queues (s : State) (reason : Nat) : (s.lost reason).queues =
    { s.queues with
      evq := pushDropOldest s.queues.evq (eventWord 6 reason) s.params.evqDepth
      evDrops := countDrop s.queues.evDrops (dropsOldest s.queues.evq s.params.evqDepth) } := rfl

/-! ## beginHandshake -/

@[simp] theorem State.beginHandshake_params (s : State) (role : Role) (peer : List Byte) : (s.beginHandshake role peer).params =
    s.params := rfl
@[simp] theorem State.beginHandshake_pending (s : State) (role : Role) (peer : List Byte) : (s.beginHandshake role peer).pending =
    s.pending := rfl
@[simp] theorem State.beginHandshake_rdata (s : State) (role : Role) (peer : List Byte) : (s.beginHandshake role peer).rdata =
    s.rdata := rfl
@[simp] theorem State.beginHandshake_host (s : State) (role : Role) (peer : List Byte) : (s.beginHandshake role peer).host =
    s.host.noteDrop (dropsOldest s.queues.evq s.params.evqDepth) := rfl
@[simp] theorem State.beginHandshake_cfg (s : State) (role : Role) (peer : List Byte) : (s.beginHandshake role peer).cfg =
    s.cfg := rfl
@[simp] theorem State.beginHandshake_act (s : State) (role : Role) (peer : List Byte) : (s.beginHandshake role peer).act =
    s.act := rfl
@[simp] theorem State.beginHandshake_tx (s : State) (role : Role) (peer : List Byte) : (s.beginHandshake role peer).tx =
    s.tx := rfl
@[simp] theorem State.beginHandshake_rx (s : State) (role : Role) (peer : List Byte) : (s.beginHandshake role peer).rx =
    s.rx := rfl
@[simp] theorem State.beginHandshake_fec (s : State) (role : Role) (peer : List Byte) : (s.beginHandshake role peer).fec =
    s.fec := rfl
@[simp] theorem State.beginHandshake_sess (s : State) (role : Role) (peer : List Byte) : (s.beginHandshake role peer).sess =
    { s.sess with
      role := role, peerKey := peer
      hangupLocalSent := false, hangupRemotePending := false, hangupRemoteLatch := false
      hsOut := [], hsOutValid := false, state := .handshaking } := rfl
@[simp] theorem State.beginHandshake_pipe (s : State) (role : Role) (peer : List Byte) : (s.beginHandshake role peer).pipe =
    s.pipe := rfl
@[simp] theorem State.beginHandshake_queues (s : State) (role : Role) (peer : List Byte) : (s.beginHandshake role peer).queues =
    { s.queues with
      evq := pushDropOldest s.queues.evq (eventWord 1 (roleCode role)) s.params.evqDepth
      evDrops := countDrop s.queues.evDrops (dropsOldest s.queues.evq s.params.evqDepth) } := rfl

/-! ## queueFrame -/

@[simp] theorem State.queueFrame_params (s : State) (bytes : List Byte) : (s.queueFrame bytes).params = s.params := rfl
@[simp] theorem State.queueFrame_pending (s : State) (bytes : List Byte) : (s.queueFrame bytes).pending =
    s.pending := rfl
@[simp] theorem State.queueFrame_rdata (s : State) (bytes : List Byte) : (s.queueFrame bytes).rdata = s.rdata := rfl
@[simp] theorem State.queueFrame_host (s : State) (bytes : List Byte) : (s.queueFrame bytes).host =
    { s.host.noteDrop (dropsOldest s.queues.txq s.params.txqDepth) with
      result0 := resultWord (txBytes s.act bytes s.tx).2.length } := rfl
@[simp] theorem State.queueFrame_cfg (s : State) (bytes : List Byte) : (s.queueFrame bytes).cfg = s.cfg := rfl
@[simp] theorem State.queueFrame_act (s : State) (bytes : List Byte) : (s.queueFrame bytes).act = s.act := rfl
@[simp] theorem State.queueFrame_tx (s : State) (bytes : List Byte) : (s.queueFrame bytes).tx =
    (txBytes s.act bytes s.tx).1 := rfl
@[simp] theorem State.queueFrame_rx (s : State) (bytes : List Byte) : (s.queueFrame bytes).rx = s.rx := rfl
@[simp] theorem State.queueFrame_fec (s : State) (bytes : List Byte) : (s.queueFrame bytes).fec = s.fec := rfl
@[simp] theorem State.queueFrame_sess (s : State) (bytes : List Byte) : (s.queueFrame bytes).sess = s.sess := rfl
@[simp] theorem State.queueFrame_pipe (s : State) (bytes : List Byte) : (s.queueFrame bytes).pipe =
    { s.pipe with framesTx := satInc s.pipe.framesTx } := rfl
@[simp] theorem State.queueFrame_queues (s : State) (bytes : List Byte) : (s.queueFrame bytes).queues =
    { s.queues with
      txq := pushDropOldest s.queues.txq (txBytes s.act bytes s.tx).2 s.params.txqDepth
      txqDrops := countDrop s.queues.txqDrops (dropsOldest s.queues.txq s.params.txqDepth) } := rfl

/-! ## takeAccess -/

@[simp] theorem State.takeAccess_params (s : State) (rest : List BusAccess) : (s.takeAccess rest).params =
    s.params := rfl
@[simp] theorem State.takeAccess_pending (s : State) (rest : List BusAccess) : (s.takeAccess rest).pending = rest := rfl
@[simp] theorem State.takeAccess_rdata (s : State) (rest : List BusAccess) : (s.takeAccess rest).rdata = none := rfl
@[simp] theorem State.takeAccess_host (s : State) (rest : List BusAccess) : (s.takeAccess rest).host = s.host := rfl
@[simp] theorem State.takeAccess_cfg (s : State) (rest : List BusAccess) : (s.takeAccess rest).cfg = s.cfg := rfl
@[simp] theorem State.takeAccess_act (s : State) (rest : List BusAccess) : (s.takeAccess rest).act = s.act := rfl
@[simp] theorem State.takeAccess_tx (s : State) (rest : List BusAccess) : (s.takeAccess rest).tx = s.tx := rfl
@[simp] theorem State.takeAccess_rx (s : State) (rest : List BusAccess) : (s.takeAccess rest).rx = s.rx := rfl
@[simp] theorem State.takeAccess_fec (s : State) (rest : List BusAccess) : (s.takeAccess rest).fec = s.fec := rfl
@[simp] theorem State.takeAccess_sess (s : State) (rest : List BusAccess) : (s.takeAccess rest).sess = s.sess := rfl
@[simp] theorem State.takeAccess_pipe (s : State) (rest : List BusAccess) : (s.takeAccess rest).pipe = s.pipe := rfl
@[simp] theorem State.takeAccess_queues (s : State) (rest : List BusAccess) : (s.takeAccess rest).queues =
    s.queues := rfl

/-! ## withCommand -/

@[simp] theorem State.withCommand_params (s : State) (w : Word) : (s.withCommand w).params = s.params := rfl
@[simp] theorem State.withCommand_pending (s : State) (w : Word) : (s.withCommand w).pending =
    .write cmdOffset 4 w :: s.pending := rfl
@[simp] theorem State.withCommand_rdata (s : State) (w : Word) : (s.withCommand w).rdata = s.rdata := rfl
@[simp] theorem State.withCommand_host (s : State) (w : Word) : (s.withCommand w).host = s.host := rfl
@[simp] theorem State.withCommand_cfg (s : State) (w : Word) : (s.withCommand w).cfg = s.cfg := rfl
@[simp] theorem State.withCommand_act (s : State) (w : Word) : (s.withCommand w).act = s.act := rfl
@[simp] theorem State.withCommand_tx (s : State) (w : Word) : (s.withCommand w).tx = s.tx := rfl
@[simp] theorem State.withCommand_rx (s : State) (w : Word) : (s.withCommand w).rx = s.rx := rfl
@[simp] theorem State.withCommand_fec (s : State) (w : Word) : (s.withCommand w).fec = s.fec := rfl
@[simp] theorem State.withCommand_sess (s : State) (w : Word) : (s.withCommand w).sess = s.sess := rfl
@[simp] theorem State.withCommand_pipe (s : State) (w : Word) : (s.withCommand w).pipe = s.pipe := rfl
@[simp] theorem State.withCommand_queues (s : State) (w : Word) : (s.withCommand w).queues = s.queues := rfl

/-! ## hardReset -/

@[simp] theorem State.hardReset_params (s : State) : s.hardReset.params = s.params := rfl
@[simp] theorem State.hardReset_pending (s : State) : s.hardReset.pending = s.pending := rfl
@[simp] theorem State.hardReset_rdata (s : State) : s.hardReset.rdata = (State.resetWith s.params).rdata := rfl
@[simp] theorem State.hardReset_host (s : State) : s.hardReset.host = (State.resetWith s.params).host := rfl
@[simp] theorem State.hardReset_cfg (s : State) : s.hardReset.cfg = (State.resetWith s.params).cfg := rfl
@[simp] theorem State.hardReset_act (s : State) : s.hardReset.act = (State.resetWith s.params).act := rfl
@[simp] theorem State.hardReset_tx (s : State) : s.hardReset.tx = (State.resetWith s.params).tx := rfl
@[simp] theorem State.hardReset_rx (s : State) : s.hardReset.rx = (State.resetWith s.params).rx := rfl
@[simp] theorem State.hardReset_fec (s : State) : s.hardReset.fec = (State.resetWith s.params).fec := rfl
@[simp] theorem State.hardReset_sess (s : State) : s.hardReset.sess = (State.resetWith s.params).sess := rfl
@[simp] theorem State.hardReset_pipe (s : State) : s.hardReset.pipe = (State.resetWith s.params).pipe := rfl
@[simp] theorem State.hardReset_queues (s : State) : s.hardReset.queues = (State.resetWith s.params).queues := rfl

end Sys2Proof.Machine
end

