-- ==== Sys2Proof/Laws/Ops.lean ====
section
/-! SUPPORT. What each shared operation can do, said once: counters and queues, the end of a command, the operand forms,
the step, the modulator and demodulator runs, the collaborator's checked results. -/

namespace Sys2Proof.Machine

/-! ## Counters, queues, events -/

theorem satInc_toNat (c : Word) (d : Nat) : (satInc c d).toNat = min (c.toNat + d) (2 ^ 32 - 1) := by
  simp only [satInc, cntMax, BitVec.toNat_ofNat]
  omega

theorem satInc_ge (c : Word) (d : Nat) : c.toNat ≤ (satInc c d).toNat := by
  rw [satInc_toNat]
  have := c.isLt
  omega

theorem countDrop_ge (c : Word) (b : Bool) : c.toNat ≤ (countDrop c b).toNat := by
  cases b
  · exact le_refl _
  · exact satInc_ge c 1

/-- A push leaves the queue within its depth (R18). -/
theorem pushDropOldest_length_le {α : Type} (q : List α) (e : α) (depth : Nat) (hq : q.length ≤ depth) (hd : 1 ≤ depth) :
    (pushDropOldest q e depth).length ≤ depth := by
  unfold pushDropOldest
  split
  · simp; omega
  · simp; omega

/-- What a queue holds after a push is the new element or was there before (R18). -/
theorem mem_pushDropOldest {α : Type} {q : List α} {e x : α} {depth : Nat} (h : x ∈ pushDropOldest q e depth) :
    x = e ∨ x ∈ q := by
  unfold pushDropOldest at h
  split at h
  · rcases List.mem_append.mp h with h | h
    · exact .inr (List.mem_of_mem_drop h)
    · exact .inl (by simpa using h)
  · rcases List.mem_append.mp h with h | h
    · exact .inr h
    · exact .inl (by simpa using h)

/-- The code of an event word is its low byte (R116). -/
theorem eventWord_code (code arg : Nat) : (eventWord code arg).extractLsb' 0 8 = BitVec.ofNat 8 code := by
  simp only [eventWord]
  ext i hi
  rw [BitVec.getElem_extractLsb', Nat.zero_add, BitVec.getLsbD_append]
  simp [hi, BitVec.getLsbD_eq_getElem]

/-- Emitting two lists of event words one after the other is emitting their concatenation. -/
theorem eventQueueAfter_append (depth : Nat) (ws vs : List Word) (q : List Word × Word × Bool) :
    eventQueueAfter depth (ws ++ vs) q = eventQueueAfter depth vs (eventQueueAfter depth ws q) := by
  induction ws generalizing q with
  | nil => rfl
  | cons w ws ih => exact ih _

@[simp] theorem announced_nil (s : State) : s.announced [] = s := rfl

/-- The statements' `announced` is the machine's `emit` (R316). -/
theorem announced_eventWord (s : State) (code arg : Nat) : s.announced [eventWord code arg] = s.emit code arg := by
  unfold State.announced State.emit
  by_cases h : s.queues.evq.length = s.params.evqDepth <;>
    simp [eventQueueAfter, h, pushDropOldest, dropsOldest, countDrop, HostIf.noteDrop]

/-- A drop note only ever sets `QUEUE_DROP` (R37, R315). -/
@[simp] theorem noteDrop_queueDrop (h : HostIf) (b : Bool) : (h.noteDrop b).queueDrop = (h.queueDrop || b) := rfl

@[simp] theorem noteDrop_din (h : HostIf) (b : Bool) : (h.noteDrop b).din = h.din := rfl

@[simp] theorem noteDrop_dout (h : HostIf) (b : Bool) : (h.noteDrop b).dout = h.dout := rfl

@[simp] theorem noteDrop_result0 (h : HostIf) (b : Bool) : (h.noteDrop b).result0 = h.result0 := rfl

@[simp] theorem noteDrop_result1 (h : HostIf) (b : Bool) : (h.noteDrop b).result1 = h.result1 := rfl

@[simp] theorem noteDrop_errCode (h : HostIf) (b : Bool) : (h.noteDrop b).errCode = h.errCode := rfl

@[simp] theorem noteDrop_errDetail (h : HostIf) (b : Bool) : (h.noteDrop b).errDetail = h.errDetail := rfl

@[simp] theorem noteDrop_busy (h : HostIf) (b : Bool) : (h.noteDrop b).busy = h.busy := rfl

@[simp] theorem noteDrop_cmdErr (h : HostIf) (b : Bool) : (h.noteDrop b).cmdErr = h.cmdErr := rfl

@[simp] theorem noteDrop_dinOverflow (h : HostIf) (b : Bool) : (h.noteDrop b).dinOverflow = h.dinOverflow := rfl

@[simp] theorem noteDrop_doutUnderflow (h : HostIf) (b : Bool) : (h.noteDrop b).doutUnderflow = h.doutUnderflow := rfl

@[simp] theorem noteDrop_evUnderflow (h : HostIf) (b : Bool) : (h.noteDrop b).evUnderflow = h.evUnderflow := rfl

@[simp] theorem noteDrop_cmdOverrun (h : HostIf) (b : Bool) : (h.noteDrop b).cmdOverrun = h.cmdOverrun := rfl

@[simp] theorem noteDrop_intEnable (h : HostIf) (b : Bool) : (h.noteDrop b).intEnable = h.intEnable := rfl

/-! ## The end of a command and the operand forms -/

/-- The three ways a command body ends, and the state of each (R19, R118). -/
theorem finish_cases (pre : State) (v : Verdict) :
    (∃ s, v = .success s ∧ v.finish pre = s.endSuccess) ∨
    (∃ e d, v = .raised e d ∧ v.finish pre = pre.takeError e d) ∨
    (∃ s e d, v = .reported s e d ∧ v.finish pre = s.takeError e d) := by
  cases v with
  | success s => exact .inl ⟨s, rfl, rfl⟩
  | raised e d => exact .inr (.inl ⟨e, d, rfl, rfl⟩)
  | reported s e d => exact .inr (.inr ⟨s, e, d, rfl, rfl⟩)

theorem runZ_eq (body : State → Verdict) (s : State) :
    runZ body s = .next ((body s.clearResults).finish s.clearResults) := rfl

theorem runLI_eq (len : Nat) (body : Nat → State → Verdict) (s : State) : runLI len body s = runZ (body len) s := rfl

theorem runLD_of_eq (body : List Entry → State → Verdict) (s : State) (len : Nat) (h : s.host.din.length = len) :
    runLD len body s = runZ (body s.host.din) (s.setDin []) := by
  simp [runLD, h]

theorem runLD_of_ne (body : List Entry → State → Verdict) (s : State) (len : Nat) (h : len ≠ s.host.din.length) :
    runLD len body s = .next (s.takeError .lengthMismatch 0) := by
  simp [runLD, h]

/-- A format LD command either refuses its operand or runs its body on the whole of `DIN` (R118). -/
theorem runLD_cases (len : Nat) (body : List Entry → State → Verdict) (s : State) :
    (len ≠ s.host.din.length ∧ runLD len body s = .next (s.takeError .lengthMismatch 0)) ∨
    (len = s.host.din.length ∧
      runLD len body s =
        .next ((body s.host.din (s.setDin []).clearResults).finish (s.setDin []).clearResults)) := by
  by_cases h : len = s.host.din.length
  · exact .inr ⟨h, by rw [runLD_of_eq body s len h.symm, runZ_eq]⟩
  · exact .inl ⟨h, runLD_of_ne body s len h⟩

/-! ## The step -/

/-- Every step serves nothing, or the first pending access (R101). -/
theorem step_cases (s : State) :
    (s.pending = [] ∧ step s = .next s) ∨
    ∃ a rest, s.pending = a :: rest ∧ step s = serveAccess a (s.takeAccess rest) := by
  cases h : s.pending with
  | nil => exact .inl ⟨rfl, by simp [step, serveNext, h]⟩
  | cons a rest => exact .inr ⟨a, rest, rfl, by simp [step, serveNext, h]⟩

/-- What an access that answers a next state did: a read, a register write, a command, or the hardware reset. -/
theorem serveAccess_cases {a : BusAccess} {s t : State} (h : serveAccess a s = .next t) :
    (∃ off, a = .read off 4 ∧ t = { s.readEffect off with rdata := some (s.regValue off) }) ∨
    (∃ off v, a = .write off 4 v ∧ off ≠ cmdOffset ∧ t = s.regWrite off v) ∨
    (∃ v, a = .write cmdOffset 4 v ∧ runCommand v s = .next t) ∨
    (a = .reset ∧ t = s.hardReset) := by
  cases a with
  | read off width =>
    simp only [serveAccess] at h
    split at h
    next hl => exact .inl ⟨off, by rw [hl.1], by simpa using h.symm⟩
    next => cases h
  | write off width v =>
    simp only [serveAccess] at h
    split at h
    next hl =>
      split at h
      next hc => exact .inr (.inr (.inl ⟨v, by rw [hl.1, hc], h⟩))
      next hc => exact .inr (.inl ⟨off, v, by rw [hl.1], hc, by simpa using h.symm⟩)
    next => cases h
  | reset => exact .inr (.inr (.inr ⟨rfl, by simpa [serveAccess] using h.symm⟩))

/-- What a write of a command word can do (R86, R114, R118). -/
theorem runCommand_cases (w : Word) (s : State) :
    (s.host.busy = true ∧ runCommand w s = .next { s with host := { s.host with cmdOverrun := true } }) ∨
    (s.host.busy = false ∧ ∃ i, decode w = .ok i ∧ runCommand w s = exec i s) ∨
    (s.host.busy = false ∧ ∃ e, decode w = .error e ∧
      runCommand w s = .next (s.takeError .illegalCommand (opcOf w))) := by
  cases hb : s.host.busy with
  | true => exact .inl ⟨rfl, by simp [runCommand, hb]⟩
  | false =>
    cases hd : decode w with
    | ok i => exact .inr (.inl ⟨rfl, i, rfl, by simp [runCommand, hb, hd]⟩)
    | error e => exact .inr (.inr ⟨rfl, e, rfl, by simp [runCommand, hb, hd]⟩)

/-! ## Modem -/

@[simp] theorem toneSamples_length (fcw : Word) (n : Nat) (ph : Word) : (toneSamples fcw n ph).length = n := by
  induction n generalizing ph with
  | zero => rfl
  | succ n ih => simp [toneSamples, ih]

/-- The phase after `n` samples of one tone has moved by `n` frequency words (R163). -/
theorem tonePhase_eq (fcw : Word) (n : Nat) (ph : Word) : tonePhase fcw n ph = ph + BitVec.ofNat 32 n * fcw := by
  induction n generalizing ph with
  | zero => simp [tonePhase]
  | succ n ih =>
    rw [tonePhase, ih]
    apply BitVec.eq_of_toNat_eq
    simp [BitVec.toNat_add, BitVec.toNat_mul, Nat.add_mul]
    omega

theorem txSymbols_append (act : ActiveCfg) (u v : List Symbol) (tx : ModemTx) :
    txSymbols act (u ++ v) tx =
      ((txSymbols act v (txSymbols act u tx).1).1,
        (txSymbols act u tx).2 ++ (txSymbols act v (txSymbols act u tx).1).2) := by
  induction u generalizing tx with
  | nil => simp [txSymbols]
  | cons a u ih => simp [txSymbols, ih]

/-- Every symbol makes `ACT_SPS` samples (R163). -/
theorem txSymbols_length (act : ActiveCfg) (vs : List Symbol) (tx : ModemTx) :
    (txSymbols act vs tx).2.length = vs.length * act.sps.toNat := by
  induction vs generalizing tx with
  | nil => simp [txSymbols]
  | cons v vs ih => simp [txSymbols, txSymbol, ih, Nat.add_mul]; omega

@[simp] theorem bytesSymbols_length (bs : List Byte) : (bytesSymbols bs).length = 4 * bs.length := by
  induction bs with
  | nil => rfl
  | cons b bs ih =>
    have h : bytesSymbols (b :: bs) = byteSymbols b ++ bytesSymbols bs := rfl
    rw [h, List.length_append, ih]
    simp [byteSymbols]
    omega

/-- The length law of the modulator (R166). -/
theorem txBytes_length (act : ActiveCfg) (bs : List Byte) (tx : ModemTx) :
    (txBytes act bs tx).2.length = bs.length * 4 * act.sps.toNat := by
  rw [txBytes, txSymbols_length, bytesSymbols_length, Nat.mul_comm 4]

theorem rxSamples_append (act : ActiveCfg) (a b : List Entry) (rx : ModemRx) :
    rxSamples act (a ++ b) rx =
      ((rxSamples act b (rxSamples act a rx).1).1,
        (rxSamples act a rx).2 ++ (rxSamples act b (rxSamples act a rx).1).2) := by
  induction a generalizing rx with
  | nil => simp [rxSamples]
  | cons x a ih => simp [rxSamples, ih]

/-! ## FEC codec -/

@[simp] theorem zeros_length (n : Nat) : (zeros n).length = n := by simp [zeros]

theorem parityStep_length (par : List Byte) (d : Byte) (h : par.length = 32) : (parityStep par d).length = 32 := by
  simp [parityStep, genTaps, genPoly, rsPar, h]

theorem rsParity_length (d : List Byte) : (rsParity d).length = 32 := by
  unfold rsParity
  generalize hp : zeros rsPar = par
  have h : par.length = 32 := by rw [← hp]; simp [rsPar]
  clear hp
  induction d generalizing par with
  | nil => exact h
  | cons b d ih => exact ih _ (parityStep_length par b h)

@[simp] theorem rsEncode_length (d : List Byte) : (rsEncode d).length = d.length + 32 := by
  simp [rsEncode, rsParity_length]

/-! ## The collaborator's checked results -/

/-- What passes the shape check of R264. -/
theorem hsChecked_cases (p : Params) (r : HsResult) :
    (∃ ctx out, hsChecked p r = .cont ctx out ∧ ctx.length = p.hsctxBytes ∧ hsOutOk p out = true) ∨
    (∃ keys out, hsChecked p r = .complete keys out ∧ keys.length = p.keysBytes ∧ hsOutOk p out = true) ∨
    (∃ reason, hsChecked p r = .fail reason ∧ (reason = 2 ∨ reason = 3 ∨ reason = 4)) := by
  cases r with
  | cont ctx out =>
    simp only [hsChecked]
    split
    next h => exact .inl ⟨ctx, out, rfl, h.1, h.2⟩
    next => exact .inr (.inr ⟨4, rfl, by simp⟩)
  | complete keys out =>
    simp only [hsChecked]
    split
    next h => exact .inr (.inl ⟨keys, out, rfl, h.1, h.2⟩)
    next => exact .inr (.inr ⟨4, rfl, by simp⟩)
  | fail reason =>
    simp only [hsChecked]
    split
    next h => exact .inr (.inr ⟨reason, rfl, h⟩)
    next => exact .inr (.inr ⟨4, rfl, by simp⟩)

/-- What passes the shape check of R266. -/
theorem encChecked_cases (p : Params) (m : Nat) (r : EncResult) :
    (∃ keys ct, encChecked p m r = .ok keys ct ∧ ct.length = m ∧ keys.length = p.keysBytes) ∨
    encChecked p m r = .fatal := by
  cases r with
  | ok keys ct =>
    simp only [encChecked]
    split
    next h => exact .inl ⟨keys, ct, rfl, h.1, h.2⟩
    next => exact .inr rfl
  | fatal => exact .inr rfl

/-- What passes the shape check of R267. -/
theorem decChecked_cases (p : Params) (n : Nat) (r : DecResult) :
    (∃ keys pt, decChecked p n r = .ok keys pt ∧ pt.length + p.aeadOverhead = n ∧ keys.length = p.keysBytes) ∨
    (∃ keys, decChecked p n r = .reject keys ∧ keys.length = p.keysBytes) ∨
    decChecked p n r = .fatal := by
  cases r with
  | ok keys pt =>
    simp only [decChecked]
    split
    next h => exact .inl ⟨keys, pt, rfl, h.1, h.2⟩
    next => exact .inr (.inr rfl)
  | reject keys =>
    simp only [decChecked]
    split
    next h => exact .inr (.inl ⟨keys, rfl, h⟩)
    next => exact .inr (.inr rfl)
  | fatal => exact .inr (.inr rfl)

@[simp] theorem fitBytes_length (n : Nat) (l : List Byte) : (fitBytes n l).length = n := by
  simp [fitBytes]
  omega

/-- A keypair has its two sizes, whichever collaborator is attached (R263). -/
theorem xKeypair_lengths (p : Params) (seed : List Byte) :
    (xKeypair p seed).1.length = p.skBytes ∧ (xKeypair p seed).2.length = 32 := by
  unfold xKeypair
  split <;> simp [t0Keypair, keyLen]

end Sys2Proof.Machine
end

