-- ==== Sys2Proof/Laws/PerInstr.lean ====
section
/-! SUPPORT. Statements made per instruction. Family `Fields`: the word of a well-formed command carries its opcode in bits
7:0 and its `LEN` in bits 31:8 (spec/30_encoding.md rules R111 to R113). -/

namespace Sys2Proof.Laws

/-- A word built from a length and an opcode gives its length field back. -/
theorem lenOf_append (n c : Nat) (h : n < 2 ^ 24) : lenOf (BitVec.ofNat 24 n ++ BitVec.ofNat 8 c) = n := by
  simp only [lenOf, BitVec.extractLsb'_toNat, BitVec.toNat_append, BitVec.toNat_ofNat]
  rw [Nat.shiftLeft_eq, Nat.mul_comm, Nat.two_pow_add_eq_or_of_lt (Nat.mod_lt _ (by decide)) _ |>.symm,
    Nat.shiftRight_eq_div_pow]
  omega

/-- A word built from a length and an opcode gives its opcode field back. -/
theorem opcOf_append (n c : Nat) : opcOf (BitVec.ofNat 24 n ++ BitVec.ofNat 8 c) = BitVec.ofNat 8 c := by
  apply BitVec.eq_of_toNat_eq
  simp only [opcOf, BitVec.extractLsb'_toNat, BitVec.toNat_append, BitVec.toNat_ofNat]
  rw [Nat.shiftLeft_eq, Nat.mul_comm, Nat.two_pow_add_eq_or_of_lt (Nat.mod_lt _ (by decide)) _ |>.symm,
    Nat.shiftRight_eq_div_pow]
  omega

/-- What the family says of one command. -/
def Fields.Statement (i : Instr) : Prop :=
  i.WellFormed → opcOf (encode i) = BitVec.ofNat 8 i.opcode ∧ lenOf (encode i) = i.len

/-- The family's statement from the two field lemmas. -/
theorem fields_of_encode (i : Instr) : Fields.Statement i := fun h => ⟨opcOf_append _ _, lenOf_append _ _ h⟩

theorem Fields.nop : Fields.Statement .nop := fields_of_encode _

theorem Fields.setConfig : Fields.Statement .setConfig := fields_of_encode _

theorem Fields.dioFlush : Fields.Statement .dioFlush := fields_of_encode _

theorem Fields.modemReset : Fields.Statement .modemReset := fields_of_encode _

theorem Fields.samplesForBytes (len : Nat) : Fields.Statement (.samplesForBytes len) := fields_of_encode _

theorem Fields.modulate (len : Nat) : Fields.Statement (.modulate len) := fields_of_encode _

theorem Fields.demodulate (len : Nat) : Fields.Statement (.demodulate len) := fields_of_encode _

theorem Fields.fecEncode (len : Nat) : Fields.Statement (.fecEncode len) := fields_of_encode _

theorem Fields.fecDecode (len : Nat) : Fields.Statement (.fecDecode len) := fields_of_encode _

theorem Fields.fecEncodedLen (len : Nat) : Fields.Statement (.fecEncodedLen len) := fields_of_encode _

theorem Fields.fecDataLen (len : Nat) : Fields.Statement (.fecDataLen len) := fields_of_encode _

theorem Fields.initializeSession (len : Nat) : Fields.Statement (.initializeSession len) := fields_of_encode _

theorem Fields.startServer (len : Nat) : Fields.Statement (.startServer len) := fields_of_encode _

theorem Fields.startClient (len : Nat) : Fields.Statement (.startClient len) := fields_of_encode _

theorem Fields.stopSession : Fields.Statement .stopSession := fields_of_encode _

theorem Fields.derivePubkey (len : Nat) : Fields.Statement (.derivePubkey len) := fields_of_encode _

theorem Fields.sendHangup : Fields.Statement .sendHangup := fields_of_encode _

theorem Fields.consumeRemoteHangup : Fields.Statement .consumeRemoteHangup := fields_of_encode _

theorem Fields.hsRead : Fields.Statement .hsRead := fields_of_encode _

theorem Fields.hsWrite (len : Nat) : Fields.Statement (.hsWrite len) := fields_of_encode _

theorem Fields.tick : Fields.Statement .tick := fields_of_encode _

theorem Fields.feedMicFrame (len : Nat) : Fields.Statement (.feedMicFrame len) := fields_of_encode _

theorem Fields.handleIncomingFrame (len : Nat) : Fields.Statement (.handleIncomingFrame len) := fields_of_encode _

theorem Fields.generateOutgoingFrame : Fields.Statement .generateOutgoingFrame := fields_of_encode _

theorem Fields.pullSpeakerFrame : Fields.Statement .pullSpeakerFrame := fields_of_encode _

end Sys2Proof.Laws
end

