-- ==== Sys2Proof/Tests/Slice0.lean ====
section
/-! SUPPORT. Tests of the model. Expected results come from spec/95_test_vectors.md (its vectors V<n> and program P4 are
named), from the encoding tables of spec/30_encoding.md, or from hand calculation by the rules, never from the model. The
second half gives, for every statement that has hypotheses, a concrete state and operands that meet them. -/

namespace Sys2Proof.Tests

open Sys2Proof Sys2Proof.Machine

-- The kernel checks these one at a time: `decide +kernel` waits for every theorem before it.
set_option Elab.async false

/-! ## Helpers -/

/-- Did the command answer a next state with the property? -/
def check (o : Host.Outcome State Fault Refusal) (p : State → Bool) : Bool :=
  match o with
  | .next t => p t
  | .fault _ => false
  | .refused _ => false

/-- Was the access refused? -/
def isRefused (o : Host.Outcome State Fault Refusal) : Bool :=
  match o with
  | .next _ => false
  | .fault _ => false
  | .refused _ => true

/-- `s` with an operand in `DIN`. -/
def withDin (es : List Nat) (s : State) : State := s.setDin (es.map (BitVec.ofNat 16))

/-- What `DOUT` holds, as numbers. -/
def doutNats (s : State) : List Nat := s.host.dout.map BitVec.toNat

/-- What `EVQ` holds, as numbers. -/
def events (s : State) : List Nat := s.queues.evq.map BitVec.toNat

/-- A configuration of the spec's vectors, as shadow registers. -/
def shadow (fs q f0 f1 f2 f3 : Word) (flags : BitVec 2) : ShadowCfg where
  sampleRate := fs
  symbolRate := q
  freq := { t0 := f0, t1 := f1, t2 := f2, t3 := f3 }
  flags := flags
  fecStrength := 32
  codecMode := 0
  hsTimeout := 0

/-- cfg16k of spec/95_test_vectors.md. -/
def cfg16k : ShadowCfg := shadow 16000 0x00640000 600 900 1200 1500 0

/-- The `sps = 1` row of V9. -/
def cfgOne : ShadowCfg := shadow 8000 0x1F400000 1000 2000 3000 3500 0

/-- `s` with shadow registers written and not yet activated. -/
def written (c : ShadowCfg) (s : State) : State := { s with cfg := c }

/-- `s` after `SET_CONFIG` of a valid configuration. -/
def configured (c : ShadowCfg) (s : State) : State := ({ s with cfg := c, act := c.activate } : State).modemReset

/-- `seedA` of spec/95_test_vectors.md. -/
def seedA : List Nat := List.range 32

/-- `pkA`. -/
def pkA : List Nat := (List.range 32).map (fun i => 0xFF - i)

/-- `pkB`. -/
def pkB : List Nat := (List.range 32).map (fun i => 0x7F - i)

/-- A list of numbers as bytes. -/
def bytes (l : List Nat) : List Byte := l.map (BitVec.ofNat 8)

/-- Block A after `INITIALIZE [seedA]`. -/
def idleA (s : State) : State :=
  { s with sess := { s.sess with state := .idle, sk := bytes seedA, pk := bytes pkA, keypairValid := true } }

/-- Block A after its client start and `HS_READ`, as P4 step 5. -/
def handshakingA (s : State) : State :=
  { s with sess := { (idleA s).sess with
      state := .handshaking, role := .client, peerKey := bytes pkB
      hsctx := 1 :: (bytes pkA ++ bytes pkB ++ zeros 191) } }

/-- The keys of spec/95_test_vectors.md after a handshake between A and B. -/
def keysAB : List Byte := List.replicate 32 0x80 ++ zeros 32

/-- Block A in `Established`, as P4 step 8, with the keys given. -/
def established (keys : List Byte) (s : State) : State :=
  { s with sess := { (idleA s).sess with state := .established, role := .client, peerKey := bytes pkB, keys := keys } }

/-- `s` with another collaborator attached. -/
def withCollab (c : Collaborator) (s : State) : State := { s with params := { s.params with collab := c } }

/-- `s` with another `DOUT_CAP`. -/
def withDoutCap (n : Nat) (s : State) : State := { s with params := { s.params with doutCap := n } }

/-- The "Hello" codeword of V31. -/
def helloWord : List Nat :=
  [0x48, 0x65, 0x6c, 0x6c, 0x6f, 0xfd, 0x08, 0xe2, 0x84, 0x81, 0x77, 0xe4, 0x6e, 0x01, 0x94, 0xa1, 0xe0, 0x89, 0x63]
    ++ [0x64, 0x93, 0x11, 0x3e, 0x47, 0x4c, 0x5d, 0xb1, 0x4a, 0xe7, 0xa8, 0xc5, 0x5d, 0x6b, 0xb2, 0xd3, 0xc0, 0xfb]

/-- The "Hello" codeword with V33's two errors. -/
def helloTwoErrors : List Nat := (helloWord.set 1 0x9a).set 36 0xfa

/-- The "Hello" codeword with V35's seventeen errors. -/
def helloSeventeen : List Nat := (helloWord.take 17).map (· ^^^ 0x55) ++ helloWord.drop 17

/-! ## Well-formedness: the one check refuses the ill-formed term -/

theorem test_wellFormed_refuses_25_bit_len : ¬(Instr.modulate (2 ^ 24)).WellFormed := by decide

theorem test_wellFormed_admits_24_bit_len : (Instr.modulate (2 ^ 24 - 1)).WellFormed := by decide

/-! ## Decoding: words written out from R111 and R113, every constructor -/

theorem test_decode_group0 :
    decode 0x00000000 = .ok .nop ∧ decode 0x00000001 = .ok .setConfig ∧ decode 0x00000002 = .ok .dioFlush := by decide

theorem test_decode_group1 :
    decode 0x00000010 = .ok .modemReset ∧ decode 0xFFFFFF11 = .ok (.samplesForBytes 16777215) ∧
    decode 0x00000112 = .ok (.modulate 1) ∧ decode 0x00028013 = .ok (.demodulate 640) := by decide

theorem test_decode_group2 :
    decode 0x00000520 = .ok (.fecEncode 5) ∧ decode 0x00002521 = .ok (.fecDecode 37) ∧
    decode 0x0000DF22 = .ok (.fecEncodedLen 223) ∧ decode 0x00002523 = .ok (.fecDataLen 37) := by decide

theorem test_decode_group3 :
    decode 0x00002030 = .ok (.initializeSession 32) ∧ decode 0x00002031 = .ok (.startServer 32) ∧
    decode 0x00002032 = .ok (.startClient 32) ∧ decode 0x00000033 = .ok .stopSession ∧
    decode 0x00002034 = .ok (.derivePubkey 32) ∧ decode 0x00000035 = .ok .sendHangup ∧
    decode 0x00000036 = .ok .consumeRemoteHangup ∧ decode 0x00000037 = .ok .hsRead ∧
    decode 0x00002038 = .ok (.hsWrite 32) ∧ decode 0x00000039 = .ok .tick := by decide

theorem test_decode_group4 :
    decode 0x00000340 = .ok (.feedMicFrame 3) ∧ decode 0x005C8041 = .ok (.handleIncomingFrame 23680) ∧
    decode 0x00000042 = .ok .generateOutgoingFrame ∧ decode 0x00000043 = .ok .pullSpeakerFrame := by decide

/-- V5 and R114: unassigned opcodes, and format Z words with a bit of 31:8 set. -/
theorem test_decode_illegal :
    decode 0x0000003A = .error .unassignedOpcode ∧ decode 0xFFFFFFFF = .error .unassignedOpcode ∧
    decode 0x00000133 = .error .nonzeroUpper ∧ decode 0x80000000 = .error .nonzeroUpper := by decide

theorem test_decodeTableWord : decodeTableWord 32 0x00002521 = some (.fecDecode 37) ∧ decodeTableWord 32 0x0000003A = none := by
  decide

/-! ## The step and the register space -/

/-- V5: `STOP` with a non-zero upper field is illegal, `ERR = 0x00003310`. -/
theorem test_step_illegal_word :
    check (step (State.reset.withFetchWord 32 0x133)) (fun t => t.errWord == 0x3310 && t.host.cmdErr && t.sess.state == .uninitialized) := by
  decide +kernel

/-- V57 through the step: `STOP` from reset gives `STATUS = 0x00002500`. -/
theorem test_step_runs_stop :
    check (step (State.reset.withFetchWord 32 0x33)) (fun t => t.statusWord == 0x2500 && t.pending == []) := by decide +kernel

/-- R81: a misaligned, a narrow and an outside access are refused. -/
theorem test_step_refuses_illegal_access :
    isRefused (serveAccess (.read 0x002 4) State.reset) && isRefused (serveAccess (.write 0x018 2 5) State.reset)
      && isRefused (serveAccess (.read 0x200 4) State.reset) := by decide +kernel

/-- V2: an empty `DOUT_DATA` reads 0 and sets bit 10; V8: a sample of -2503 reads `0x0000F639`. -/
theorem test_dout_port :
    check (serveAccess (.read 0x020 4) State.reset) (fun t => t.rdata == some 0 && t.intStatus == 0x400) &&
      check (serveAccess (.read 0x020 4) (State.reset.pushDout [u16 (-2503)])) (fun t => t.rdata == some 0xF639) := by
  decide +kernel

/-- V8: bits 31:16 of a word written to `DIN_DATA` are ignored. -/
theorem test_din_port :
    check (serveAccess (.write 0x018 4 0xFFFFF639) State.reset) (fun t => t.host.din.map int16 == [-2503]) := by
  decide +kernel

/-- V4: `INT_ENABLE` implements ten bits. -/
theorem test_int_enable :
    check (serveAccess (.write 0x034 4 0xFFFFFFFF) State.reset) (fun t => t.host.intEnable == 0x3F0F && !t.irq) := by
  decide +kernel

/-- R390: the reset step restores the reset state. -/
theorem test_hard_reset :
    check (serveAccess .reset (established keysAB (configured cfg16k State.reset))) (fun t => t == State.reset) := by
  decide +kernel

/-! ## Housekeeping and configuration -/

/-- V7. -/
theorem test_nop_clears_err :
    check (exec .nop (State.reset.takeError .illegalCommand 0x3A)) (fun t => t.errWord == 0 && t.intStatus == 0x100) := by
  decide +kernel

/-- V9 row 1, and the row after it. -/
theorem test_setConfig_16k :
    check (exec .setConfig (written cfg16k State.reset)) (fun t =>
      t.errWord == 0 && t.host.result0 == 160 && t.host.result1 == 1 && t.act.flagsWord == 0xC &&
        t.act.fcw == { t0 := 0x09999999, t1 := 0x0E666666, t2 := 0x13333333, t3 := 0x18000000 }) &&
      check (exec .setConfig (configured cfg16k State.reset)) (fun t => t.host.result0 == 160 && t.host.result1 == 0) := by
  decide +kernel

/-- V9: 500.5 rounds up; 4097 is out of range; two equal frequencies. -/
theorem test_setConfig_rows :
    check (exec .setConfig (written (shadow 1001 0x00020000 100 200 300 400 0) State.reset))
        (fun t => t.errWord == 0 && t.host.result0 == 501 && t.act.fcw.t0 == 0x19930D8D && t.act.fcw.t3 == 0x664C3637) &&
      check (exec .setConfig (written (shadow 4097 0x00010000 1 2 3 4 0) State.reset)) (fun t => t.errWord == 0x0301) &&
      check (exec .setConfig (written (shadow 16000 0x00640000 600 900 900 1500 0) State.reset))
        (fun t => t.errWord == 0x0201 && t.act.flagsWord == 0) := by
  decide +kernel

/-- V6, its last sentence. -/
theorem test_dioFlush :
    check (exec .dioFlush (withDin [5] State.reset))
      (fun t => t.host.result0 == 1 && t.host.result1 == 0 && t.host.din == [] && t.errWord == 0) := by
  decide +kernel

/-! ## Modem -/

/-- R180 and V14: mid-window state is cleared, the counter stays, the window is nominal. -/
theorem test_modemReset :
    check (exec .modemReset { configured cfg16k State.reset with rx := { (configured cfg16k State.reset).rx with clk := 100, nsym := 3, lockq := 4, symbolsRx := 4 } })
      (fun t => t.rx.statusWord == 0 && t.rx.windowWord == 0x005000A0 && t.rx.symbolsRx == 4 && t.tx.phase == 0) := by
  decide +kernel

/-- V10. -/
theorem test_samplesForBytes :
    check (exec (.samplesForBytes 16777215) (configured cfg16k State.reset))
        (fun t => t.host.result0 == 0x7FFFFD80 && t.host.result1 == 2) &&
      check (exec (.samplesForBytes 1) State.reset) (fun t => t.errWord == 0x0601) := by
  decide +kernel

/-- V11: the first eight samples of 1200 Hz. -/
theorem test_tone_samples :
    (toneSamples 0x13333333 8 0).map BitVec.toInt = [0, 7366, 13219, 16176, 15588, 11656, 5139, -2503] := by
  decide +kernel

/-- R162, R163 by hand at one sample a symbol: `0xA5` is 2, 2, 1, 1; the phases are 0, 3/8, 3/4 and 0 turns, so the samples
are 0, sin 135 degrees, -1 and 0. -/
theorem test_modulate_one_sample_symbols :
    check (exec (.modulate 1) (withDin [0xA5] (configured cfgOne State.reset))) (fun t =>
      t.host.dout.map BitVec.toInt == [0, 11585, -16384, 0] && t.tx.symbolsTx == 4 && t.host.result0 == 4
        && t.host.din == []) := by
  decide +kernel

/-- V19: no configuration. -/
theorem test_modulate_needs_configuration :
    check (exec (.modulate 1) (withDin [1] State.reset)) (fun t => t.errWord == 0x0601 && t.host.din == []) := by
  decide +kernel

/-- V15 at one sample a symbol: silence decides symbol 0 every time. -/
theorem test_demodulate_silence :
    check (exec (.demodulate 5) (withDin [0, 0, 0, 0, 0] (configured cfgOne State.reset))) (fun t =>
      doutNats t == [0] && t.host.result0 == 1 && t.rx.nsym == 1 && t.rx.symbolsRx == 5 && t.rx.lockq == 0) := by
  decide +kernel

/-- V13: the correlator of tone 2 after the first sample of value 7366 at phase 0: cosine 16384, sine 0 (R170). -/
theorem test_correlator_first_sample :
    (Correlator.zero.sample 0x13333333 7366 true) = { ph := 0x13333333, ia := 120684544, qa := 0, ib := 0, qb := 0 } := by
  decide +kernel

/-! ## FEC codec -/

/-- V30. -/
theorem test_field :
    gmul 0x02 0x80 = 0x1D ∧ gmul 0x53 0xCA = 0x8F ∧ ginv 0x02 = 0x8E ∧ apow 8 = 0x1D ∧ apow 255 = 1 ∧ apow (-1) = 0x8E := by
  decide +kernel

/-- V31: "Hello". -/
theorem test_fecEncode_hello :
    check (exec (.fecEncode 5) (withDin [0x48, 0x65, 0x6c, 0x6c, 0x6f] State.reset))
      (fun t => doutNats t == helloWord && t.host.result0 == 37 && t.fec.encodes == 1) := by
  decide +kernel

/-- V31: the empty operand. -/
theorem test_fecEncode_empty :
    check (exec (.fecEncode 0) State.reset) (fun t => doutNats t == List.replicate 32 0 && t.host.result0 == 32) := by
  decide +kernel

/-- V33. -/
theorem test_fecDecode_two_errors :
    check (exec (.fecDecode 37) (withDin helloTwoErrors State.reset))
      (fun t => doutNats t == helloWord && t.host.result0 == 2 && t.errWord == 0 && t.fec.corrected == 2) := by
  decide +kernel

/-- V35. -/
theorem test_fecDecode_seventeen_errors :
    check (exec (.fecDecode 37) (withDin helloSeventeen State.reset))
      (fun t => doutNats t == [] && t.errWord == 0x0005 && t.fec.decodes == 1 && t.fec.uncorrectable == 1) := by
  decide +kernel

/-- V37. -/
theorem test_fec_lengths :
    check (exec (.fecEncodedLen 16777215) State.reset) (fun t => t.host.result0 == 16777247) &&
      check (exec (.fecDataLen 255) State.reset) (fun t => t.host.result0 == 223) &&
      check (exec (.fecDataLen 31) State.reset) (fun t => t.host.result0 == 0xFFFFFFFF) := by
  decide +kernel

/-! ## Session -/

/-- V51. -/
theorem test_initialize :
    check (exec (.initializeSession 32) (withDin seedA State.reset))
        (fun t => t.errWord == 0 && t.statusWord == 0x8100 && t.sess.pk == bytes pkA) &&
      check (exec (.initializeSession 31) (withDin (seedA.take 31) State.reset))
        (fun t => t.errWord == 0x0102 && t.statusWord == 0) := by
  decide +kernel

/-- V50. -/
theorem test_derivePubkey :
    check (exec (.derivePubkey 32) (withDin seedA State.reset))
      (fun t => t.host.result0 == 32 && doutNats t == pkA && t.statusWord == 0) := by
  decide +kernel

/-- V53, V52. -/
theorem test_startServer :
    check (exec (.startServer 32) (withDin pkB (idleA State.reset)))
        (fun t => t.errWord == 0 && t.statusWord == 0x8200 && events t == [0x00000001]) &&
      check (exec (.startServer 32) (withDin pkB State.reset)) (fun t => t.errWord == 0x0006) := by
  decide +kernel

/-- V53, the client. -/
theorem test_startClient :
    check (exec (.startClient 32) (withDin pkB (idleA (configured cfg16k State.reset))))
      (fun t => t.statusWord == 0x920A && events t == [0x00000101] && t.intStatus == 0x3 && t.sess.hsOut == bytes pkA) := by
  decide +kernel

/-- V54. -/
theorem test_hsRead :
    check (exec .hsRead { handshakingA State.reset with sess := { (handshakingA State.reset).sess with hsOut := bytes pkA, hsOutValid := true } })
      (fun t => t.host.result0 == 32 && doutNats t == pkA && !t.sess.hsOutValid) := by
  decide +kernel

/-- P4 step 8: the client completes. -/
theorem test_hsWrite_completes :
    check (exec (.hsWrite 32) (withDin pkB (handshakingA State.reset)))
      (fun t => t.errWord == 0 && t.statusWord == 0x9300 && events t == [2, 4] && t.sess.keys == keysAB) := by
  decide +kernel

/-- V55: the right key with byte 0 changed. -/
theorem test_hsWrite_fails :
    check (exec (.hsWrite 32) (withDin (pkB.set 0 0) (handshakingA (configured cfg16k State.reset))))
      (fun t => t.errWord == 0x0303 && t.statusWord == 0x00036502 && events t == [0x303]) := by
  decide +kernel

/-- `s` with a handshake timer. -/
def withTimer (n : Word) (s : State) : State := { s with sess := { s.sess with hsTimer := n } }

/-- V56. -/
theorem test_tick :
    check (exec .tick (withTimer 2 (handshakingA State.reset))) (fun t => t.host.result0 == 1 && t.errWord == 0) &&
      check (exec .tick (withTimer 1 (handshakingA (configured cfg16k State.reset)))) (fun t =>
        t.host.result0 == 0 && t.errWord == 0x0103 && events t == [0x103] && t.statusWord == 0x00016502) := by
  decide +kernel

/-- `s` after a remote hangup. -/
def hungUp (s : State) : State :=
  { s with sess := { s.sess with hangupRemotePending := true, hangupRemoteLatch := true } }

/-- V57. -/
theorem test_stop :
    check (exec .stopSession (handshakingA State.reset)) (fun t => t.statusWord == 0x2500 && events t == [0x603]) &&
      check (exec .stopSession (hungUp (established keysAB State.reset)))
        (fun t => t.statusWord == 0x4500 && events t == [0x108]) := by
  decide +kernel

/-- P4 steps 20 and 21. -/
theorem test_consumeRemoteHangup :
    check (exec .consumeRemoteHangup (hungUp (established keysAB State.reset)))
      (fun t => t.host.result0 == 1 && !t.sess.hangupRemotePending && t.sess.hangupRemoteLatch) := by
  decide +kernel

/-- Plaintext `01` and the ciphertext `81 01` of P4 step 16, at one sample a symbol and no FEC: eight samples. -/
theorem test_sendHangup :
    check (exec .sendHangup (established keysAB (configured cfgOne State.reset))) (fun t =>
      t.host.result0 == 8 && t.sess.hangupLocalSent && t.pipe.framesTx == 1 && t.tx.symbolsTx == 8
        && t.queues.txq == [(txBytes (configured cfgOne State.reset).act [0x81, 0x01] .reset).2]) := by
  decide +kernel

/-! ## Frame pipeline -/

/-- V77: the frame bytes `80 2a aa` of `FEED_MIC_FRAME [0xAA]` without FEC, at one sample a symbol. -/
theorem test_feedMicFrame :
    check (exec (.feedMicFrame 1) (withDin [0xAA] (established keysAB (configured cfgOne State.reset)))) (fun t =>
      t.errWord == 0 && t.host.result0 == 12
        && t.queues.txq == [(txBytes (configured cfgOne State.reset).act [0x80, 0x2a, 0xaa] .reset).2]) := by
  decide +kernel

/-- V59: T0F. -/
theorem test_feedMicFrame_fatal :
    check (exec (.feedMicFrame 1) (withDin [1] (withCollab .t0f (established keysAB (configured cfg16k State.reset)))))
      (fun t => t.errWord == 0x0414 && events t == [0x407] && t.statusWord == 0x00046502 && t.queues.txq == []) := by
  decide +kernel

/-- Eight silent samples are the two bytes 0, 0: with zero keys T0 decrypts them to the plaintext `00`, an empty payload. -/
theorem test_handleIncomingFrame_data :
    check (exec (.handleIncomingFrame 8) (withDin (List.replicate 8 0) (established (zeros 64) (configured cfgOne State.reset))))
      (fun t => t.errWord == 0 && t.host.result0 == 0 && t.queues.rxq == [[]] && t.pipe.framesRx == 1 && t.rx.symbolsRx == 8) := by
  decide +kernel

/-- With the keys of P4 the same two bytes decrypt to `80`, whose checksum is not 0: lost, reason 3 (V75). -/
theorem test_handleIncomingFrame_rejected :
    check (exec (.handleIncomingFrame 8) (withDin (List.replicate 8 0) (established keysAB (configured cfgOne State.reset))))
      (fun t => t.errWord == 0 && t.host.result0 == 4 && t.queues.rxq == [] && t.pipe.framesLost == 1 && events t == [0x306]) := by
  decide +kernel

/-- R330: the oldest frame is handed over. -/
theorem test_generateOutgoingFrame :
    check (exec .generateOutgoingFrame ((State.reset.pushTxq [1, 2, 3]).pushTxq [4]))
      (fun t => doutNats t == [1, 2, 3] && t.host.result0 == 3 && t.host.result1 == 1 && t.queues.txq == [[4]]) := by
  decide +kernel

/-- V71, its last part. -/
theorem test_pullSpeakerFrame :
    check (exec .pullSpeakerFrame (State.reset.pushRxq [0x11, 0x22, 0x33]))
        (fun t => doutNats t == [0x11, 0x22, 0x33] && t.host.result0 == 3 && t.host.result1 == 1) &&
      check (exec .pullSpeakerFrame State.reset) (fun t => t.host.result0 == 0 && t.host.result1 == 0) := by
  decide +kernel

/-! ## Witnesses: a concrete state and operands that meet the hypotheses of each statement, clause by clause -/

/-- The next access is a write of `w` to `CMD`. -/
def writing (w : Word) (s : State) : State := s.withCommand w

/-- A configured block in `Established` whose next access runs `STOP`. -/
def good : State := writing 0x33 (established keysAB (configured cfg16k State.reset))

/-- The same block with other secrets. -/
def goodTwin : State := { good with sess := { good.sess with sk := bytes pkB, keys := zeros 64 } }

/-- A configured block in `Established` at one sample a symbol, zero keys, with a silent operand of `n` samples. -/
def silent (n : Nat) : State := withDin (List.replicate n 0) (established (zeros 64) (configured cfgOne State.reset))

theorem witness_DecodeAndEncodeAreInverse :
    (Instr.modulate 16777215).WellFormed ∧ Instr.tick.WellFormed ∧ decode 0xFFFFFF12 = .ok (.modulate 16777215) ∧
    decode 0x39 = .ok .tick := by
  decide

theorem witness_IllegalWordsRaiseAndChangeNothingElse :
    (writing 0x133 State.reset).pending = .write 0x008 4 0x133 :: [] ∧ (writing 0x133 State.reset).host.busy = false ∧
    decode 0x133 = .error .nonzeroUpper ∧ decode 0xFF = .error .unassignedOpcode := by decide +kernel

theorem witness_StepRunsTheDecodedCommand :
    good.pending = .write 0x008 4 0x33 :: [] ∧ good.host.busy = false ∧ decode 0x33 = .ok .stopSession ∧
    ({ State.reset with pending := [.read 0x028 4, .reset] } : State).pending = .read 0x028 4 :: [.reset] ∧
    State.reset.pending = [] := by decide +kernel

theorem witness_StepRunsTheDecodedCommand_illegal_access :
    ¬(4 = 4 ∧ 0x1FE % 4 = 0 ∧ 0x1FE < 0x200) ∧ ¬(4 = 4 ∧ 0x200 % 4 = 0 ∧ 0x200 < 0x200) ∧
    ¬(2 = 4 ∧ 0x000 % 4 = 0 ∧ 0x000 < 0x200) ∧
    ({ State.reset with pending := [.read 0x200 4] } : State).pending = .read 0x200 4 :: [] ∧
    ({ State.reset with pending := [.write 0x1FE 4 1] } : State).pending = .write 0x1FE 4 1 :: [] := by decide +kernel

theorem witness_CommandsAlwaysAnswerAndKeepTheConfiguration :
    (Instr.setConfig ≠ .nop) ∧ (State.reset.takeError .key 1).host.cmdErr = true := by decide +kernel

theorem witness_ResetGivesEveryRegisterItsValue :
    ({ good with pending := [.reset] } : State).pending = .reset :: [] := by decide +kernel

theorem witness_InvariantsHoldAtReset : Params.defaults.Ok := by decide

/-- The step of `good` answers. -/
theorem good_steps : ∃ t, step good = .next t := ⟨_, rfl⟩

/-- The reset state is not configured. -/
theorem reset_unconfigured : UnconfiguredIdle State.reset ∧ State.reset.act.cfgValid = false :=
  ⟨fun _ => ⟨rfl, rfl, rfl⟩, rfl⟩

/-- The configuration and window of `good`. -/
theorem good_modem : ModemConsistent good ∧ UnconfiguredIdle good := by
  refine ⟨fun _ => ⟨?_, ?_⟩, fun h => absurd h (by decide +kernel)⟩
  · constructor <;> decide +kernel
  · constructor <;> decide +kernel

theorem witness_StepKeepsWindowAndConfiguration :
    (ModemConsistent good ∧ UnconfiguredIdle good ∧ ∃ t, step good = .next t) ∧
    ModemConsistent (writing 0x10 State.reset) ∧ UnconfiguredIdle (writing 0x10 State.reset) ∧
    ∃ t, step (writing 0x10 State.reset) = .next t :=
  ⟨⟨good_modem.1, good_modem.2, good_steps⟩, fun h => Bool.noConfusion (reset_unconfigured.2.symm.trans h),
    reset_unconfigured.1, _, rfl⟩

theorem witness_StepKeepsSecretsZeroOutsideASession : SessionConsistent good ∧ ∃ t, step good = .next t := by
  refine ⟨?_, good_steps⟩
  constructor
  · decide +kernel
  · decide +kernel
  · decide +kernel
  · decide +kernel
  · exact fun h => absurd h (by decide +kernel)
  · decide +kernel

theorem witness_StepKeepsEveryQueueWithinCapacity : WithinCapacity good ∧ ∃ t, step good = .next t :=
  ⟨by constructor <;> decide +kernel, good_steps⟩

theorem witness_StepKeepsBlobSizes : BlobSizes good ∧ ∃ t, step good = .next t :=
  ⟨by constructor <;> decide +kernel, good_steps⟩

theorem witness_StepKeepsAccumulatorsBounded :
    ModemConsistent good ∧ AccumulatorsBounded good ∧ ∃ t, step good = .next t := by
  refine ⟨good_modem.1, fun k => ?_, good_steps⟩
  fin_cases k <;> constructor <;> decide +kernel

theorem witness_StepKeepsFrameSizes : ModemConsistent good ∧ FrameSizes good ∧ ∃ t, step good = .next t :=
  ⟨good_modem.1, by constructor <;> decide +kernel, good_steps⟩

theorem good_events : EventCodes good := by
  have h : good.queues.evq = [] := by decide +kernel
  intro w hw
  rw [h] at hw
  cases hw

theorem witness_StepKeepsEventsAndStatisticsSound :
    InterfaceIdle good ∧ EventCodes good ∧ FecStatsConsistent good ∧ ∃ t, step good = .next t :=
  ⟨by constructor <;> decide +kernel, good_events, fun _ => by decide +kernel, good_steps⟩

theorem witness_CountersNeverDecreaseExceptAtReset :
    (∀ rest, good.pending ≠ .reset :: rest) ∧ (∃ t, step good = .next t) ∧ good.act.cfgValid = true :=
  ⟨fun _ h => BusAccess.noConfusion (List.cons.inj h).1, good_steps, by decide +kernel⟩

theorem witness_SessionMovesOnlyAlongTheTransitionTable : ∃ t, exec .stopSession good = .next t := ⟨_, rfl⟩

theorem good_twin : SameButSecrets good goodTwin ∧ good ≠ goodTwin := ⟨rfl, by decide +kernel⟩

theorem witness_NoRegisterReadRevealsASecret : SameButSecrets good goodTwin ∧ good ≠ goodTwin := good_twin

theorem witness_CommandsWithoutTheCollaboratorRevealNoSecret :
    usesSecrets .stopSession = false ∧ SameButSecrets good goodTwin ∧ good ≠ goodTwin :=
  ⟨by decide, good_twin.1, good_twin.2⟩

/-- The hypotheses of the `SET_CONFIG` statement, with the value of `sps`. -/
def setConfigReady (s : State) (sps : Nat) : Prop :=
  s.cfg.sampleRate.toNat ≠ 0 ∧ s.cfg.symbolRate.toNat ≠ 0 ∧ (∀ k, s.cfg.freq.get k ≠ 0) ∧
  (∀ j k, j ≠ k → s.cfg.freq.get j ≠ s.cfg.freq.get k) ∧
  (2 * s.cfg.sampleRate.toNat * 65536 + s.cfg.symbolRate.toNat) / (2 * s.cfg.symbolRate.toNat) = sps ∧ 1 ≤ sps ∧
  sps ≤ 4096 ∧ s.cfg.fecStrength = 32

/-- V9: `sps` of 160, the smallest 1 and the largest 4096; the modem parameters changed, and not changed. -/
theorem witness_SetConfigActivatesAValidConfiguration :
    setConfigReady (written cfg16k State.reset) 160 ∧ setConfigReady (written cfgOne State.reset) 1 ∧
    setConfigReady (written (shadow 4096 0x00010000 1 2 3 4 0) State.reset) 4096 ∧
    (written cfg16k State.reset).act.cfgValid = false ∧
    setConfigReady (configured cfg16k State.reset) 160 ∧ (configured cfg16k State.reset).act.cfgValid = true ∧
    (configured cfg16k State.reset).cfg.freq = (configured cfg16k State.reset).act.freq := by
  unfold setConfigReady
  decide +kernel

/-- V9: a zero rate; a zero and a doubled frequency; `sps` of 0 and of 4097; `fecStrength` 16. -/
theorem witness_SetConfigFirstFailingCheckDecides :
    (shadow 0 0x00640000 600 900 1200 1500 0).invalid = some 1 ∧
    (shadow 16000 0x00640000 600 900 0 1500 0).invalid = some 2 ∧
    (shadow 16000 0x00640000 600 900 900 1500 0).invalid = some 2 ∧
    (shadow 8000 0x4E210000 600 900 1200 1500 0).invalid = some 3 ∧
    (shadow 4097 0x00010000 1 2 3 4 0).invalid = some 3 ∧
    ({ cfg16k with fecStrength := 16 } : ShadowCfg).invalid = some 4 := by
  decide +kernel

/-- A configured block with a one-byte operand and room for exactly its samples. -/
def tight : State := withDoutCap 640 (withDin [0xA5] (configured cfg16k State.reset))

theorem witness_SamplesForBytesIsTheModulatedLength :
    tight.act.cfgValid = true ∧ 1 < 2 ^ 24 ∧ 16777215 < 2 ^ 24 ∧ tight.host.din.length = 1 ∧
    tight.host.dout.length + 1 * 4 * tight.act.sps.toNat ≤ tight.params.doutCap ∧ tight.params.doutCap < 2 ^ 32 := by
  decide +kernel

theorem witness_ModulateEmitsPhaseContinuousTones :
    tight.act.cfgValid = true ∧ tight.host.din.length = 1 ∧
    tight.host.dout.length + 1 * 4 * tight.act.sps.toNat ≤ tight.params.doutCap := by
  decide +kernel

/-- `silent n` with `DOUT` full. -/
def fullDout (n : Nat) : State := withDoutCap 255 ((silent n).pushDout (List.replicate 255 0))

/-- R183, R178's corner case: an empty operand is no error, even with `DOUT` full; one sample more is (R178, R359). -/
theorem test_demodulate_full_dout :
    check (exec (.demodulate 0) (fullDout 0)) (fun t => t.errWord == 0 && t.host.result0 == 0 && t.host.dout.length == 255) &&
      check (exec (.demodulate 1) (fullDout 1)) (fun t => t.errWord == 0x12 && t.host.din == []) := by
  decide +kernel

theorem witness_DemodulateAppendsTheReceivedBytes :
    ((silent 8).act.cfgValid = true ∧ (silent 8).host.din.length = 8 ∧
      (silent 8).host.dout.length + 8 / 4 + 1 ≤ (silent 8).params.doutCap) ∧
    (fullDout 0).act.cfgValid = true ∧ (fullDout 0).host.din.length = 0 ∧
    (fullDout 0).host.dout.length = (fullDout 0).params.doutCap := by
  decide +kernel

/-- The hypotheses on one sample, for receiver `rx` with `clk` samples in a window of `wlen`. -/
def sampleReady (a : ActiveCfg) (rx : ModemRx) (clk half wlen : Nat) : Prop :=
  ConfigDerived a ∧ WindowBounds a rx ∧ (∀ k : Symbol, (rx.cor.get k).Bounded rx.clk.toNat) ∧ rx.clk.toNat = clk ∧
  rx.half.toNat = half ∧ rx.wlen.toNat = wlen

/-- The receiver of `good` after `clk` silent samples. -/
def rxAt (clk : BitVec 13) : ModemRx := { good.rx with clk := clk, nsym := 3 }

/-- The first sample, the last of the first half, the first of the second, the last of a window; and a window of one sample. -/
theorem witness_DemodulateAppendsTheReceivedBytes_sample :
    sampleReady good.act (rxAt 0) 0 80 160 ∧ sampleReady good.act (rxAt 79) 79 80 160 ∧
    sampleReady good.act (rxAt 80) 80 80 160 ∧ sampleReady good.act (rxAt 159) 159 80 160 ∧
    sampleReady (silent 8).act (silent 8).rx 0 0 1 := by
  have one : ∀ k : Symbol, ((silent 8).rx.cor.get k).Bounded (silent 8).rx.clk.toNat := fun k => by
    fin_cases k <;> constructor <;> decide +kernel
  have any : ∀ c : BitVec 13, ∀ k : Symbol, ((rxAt c).cor.get k).Bounded (rxAt c).clk.toNat := fun c k => by
    fin_cases k <;> exact ⟨Nat.zero_le _, Nat.zero_le _, Nat.zero_le _, Nat.zero_le _⟩
  have act : ConfigDerived good.act := (good_modem.1 (by decide +kernel)).1
  refine ⟨⟨act, ?_, any _, ?_⟩, ⟨act, ?_, any _, ?_⟩, ⟨act, ?_, any _, ?_⟩, ⟨act, ?_, any _, ?_⟩, ?_, ?_, one, ?_⟩
  all_goals first | decide +kernel | (constructor <;> decide +kernel)

theorem witness_DemodulateSplitAnywhereIsTheSame :
    (silent 8).act.cfgValid = true ∧ (silent 8).host.din = List.replicate 3 0 ++ List.replicate 5 0 ∧
    (silent 8).host.dout.length + 3 / 4 + 5 / 4 + 3 ≤ (silent 8).params.doutCap := by
  decide +kernel

theorem witness_AlignedReceptionGivesOneByteForFourWindows :
    (silent 8).act.trackEn = false ∧ 1 ≤ (silent 8).act.sps.toNat ∧
    (silent 8).host.din.length = 2 * 4 * (silent 8).act.sps.toNat := by
  decide +kernel

theorem witness_SymbolDecisionIsTheSmallestMaximum :
    ∀ j, ({ t0 := 1, t1 := 7, t2 := 7, t3 := 2 } : Tones Int).get j ≤ ({ t0 := 1, t1 := 7, t2 := 7, t3 := 2 } : Tones Int).get 1 := by
  decide +kernel

theorem witness_ByteAssemblerMirrorsTheSymbolMapping : ({ ModemRx.reset with shreg := 0xFF } : ModemRx).nsym = 0 := by
  decide +kernel

/-- The lock is gained at `LOCKQ` 7 and lost at `LOCKQ` 2. -/
theorem witness_LockDetectorFollowsItsRule :
    (({ ModemRx.reset with lockq := 7 } : ModemRx).locked = false ∧ min ((7 : Int) + 1) 15 ≥ 8) ∧
    (({ ModemRx.reset with lockq := 2, locked := true } : ModemRx).locked = true ∧ max ((2 : Int) - 2) 0 = 0) ∧
    ¬(({ ModemRx.reset with lockq := 6 } : ModemRx).locked = false ∧ min ((6 : Int) + 1) 15 ≥ 8) := by
  decide +kernel

theorem witness_FieldTablesAgreeWithTheBitLevelField : (0xFF : Byte) ≠ 0 ∧ 254 < 255 := by decide

theorem witness_FecEncodeAppendsASystematicCodeword :
    (withDin (List.replicate 223 0xFF) State.reset).host.din.length = 223 ∧ 223 ≤ 223 ∧
    State.reset.host.din.length = 0 ∧
    (withDin (List.replicate 223 0xFF) State.reset).host.dout.length + 223 + 32 ≤ State.reset.params.doutCap := by
  decide +kernel

theorem witness_FecDecodeOfAnEncodedWordIsClean :
    (bytes [0xA5]).length ≤ 223 ∧
    (State.reset.setDin ((rsEncode (bytes [0xA5])).map byteEntry)).host.din = (rsEncode (bytes [0xA5])).map byteEntry ∧
    State.reset.host.dout.length + 1 + 32 ≤ State.reset.params.doutCap := by
  decide +kernel

/-- The "Hello" codeword, its first and its last byte. -/
theorem witness_SingleByteErrorIsCorrected :
    32 ≤ (bytes helloWord).length ∧ (bytes helloWord).length ≤ 255 ∧ IsCodeword (bytes helloWord) ∧
    0 < (bytes helloWord).length ∧ 36 < (bytes helloWord).length ∧ (0x80 : Byte) ≠ 0 := by
  refine ⟨by decide +kernel, by decide +kernel, ?_, by decide +kernel, by decide +kernel, by decide⟩
  unfold IsCodeword
  decide +kernel

/-- V33 is corrected and V35 is not. -/
theorem witness_FecDecodeCorrectsOrReports :
    (withDin helloTwoErrors State.reset).host.din.length = 37 ∧ 32 ≤ 37 ∧ 37 ≤ 255 ∧
    State.reset.host.dout.length + 37 ≤ State.reset.params.doutCap ∧
    rsDecode (operandBytes (withDin helloTwoErrors State.reset).host.din) = .corrected 2 (bytes helloWord) ∧
    (withDin helloSeventeen State.reset).host.din.length = 37 ∧
    rsDecode (operandBytes (withDin helloSeventeen State.reset).host.din) = .uncorrectable :=
  ⟨by decide +kernel, by decide +kernel, by decide +kernel, by decide +kernel, by decide +kernel, by decide +kernel,
    by decide +kernel⟩

theorem witness_FecLengthCommandsArePureArithmetic : 0 < 2 ^ 24 ∧ 31 < 2 ^ 24 ∧ 16777215 < 2 ^ 24 := by decide

/-- From `Uninitialized`, `Handshaking` and `Established`. -/
theorem witness_InitializeTearsDownAndInstallsTheKeypair :
    (withDin seedA State.reset).host.din.length = 32 ∧ State.reset.sess.state ≠ .established ∧
    State.reset.sess.state ≠ .handshaking ∧ (withDin seedA good).host.din.length = 32 ∧ good.sess.state = .established ∧
    (withDin seedA (handshakingA State.reset)).host.din.length = 32 ∧ (handshakingA State.reset).sess.state = .handshaking := by
  decide +kernel

theorem witness_DerivedKeyIsTheKeyInitializeInstalls :
    (withDin seedA State.reset).host.din.length = 32 ∧ State.reset.host.dout.length + 32 ≤ State.reset.params.doutCap := by
  decide +kernel

/-- The context T0 makes for A's client start. -/
def ctxA : List Byte := 1 :: (bytes pkA ++ bytes pkB ++ zeros 191)

/-- Block A, idle, with `pkB` as operand; `HSCTX_BYTES` as given. -/
def starting (n : Nat) : State :=
  { withDin pkB (idleA State.reset) with params := { Params.defaults with hsctxBytes := n } }

/-- T0 continues, with a message for a client and none for a server; with another `HSCTX_BYTES` its context has a wrong
length, which counts as `Fail(4)`. -/
theorem witness_StartBeginsTheHandshakeOrTerminates :
    (starting 256).sess.state = .idle ∧ (starting 256).host.din.length = 32 ∧
    hsChecked (starting 256).params (xHsBegin (starting 256).params .client (starting 256).sess.sk (starting 256).sess.pk
      (operandBytes (starting 256).host.din)) = .cont ctxA (some (bytes pkA)) ∧
    hsChecked (starting 256).params (xHsBegin (starting 256).params .server (starting 256).sess.sk (starting 256).sess.pk
      (operandBytes (starting 256).host.din)) = .cont (0 :: ctxA.tail) none ∧
    (starting 255).sess.state = .idle ∧ (starting 255).host.din.length = 32 ∧
    hsChecked (starting 255).params (xHsBegin (starting 255).params .server (starting 255).sess.sk (starting 255).sess.pk
      (operandBytes (starting 255).host.din)) = .fail 4 := by
  decide +kernel

/-- T0's `Continue` is a success of `hs_apply`. -/
theorem witness_StartBeginsTheHandshakeOrTerminates_apply :
    ∃ t, (handshakeBegun (starting 256) .client (operandBytes (starting 256).host.din)).hsApply
      (hsChecked (starting 256).params (xHsBegin (starting 256).params .client (starting 256).sess.sk
        (starting 256).sess.pk (operandBytes (starting 256).host.din))) = .success t := by
  rw [witness_StartBeginsTheHandshakeOrTerminates.2.2.1]
  exact ⟨_, rfl⟩

/-- A client waiting to read its message, with room for exactly it, and with one entry less. -/
def reading (cap : Nat) : State :=
  withDoutCap cap { handshakingA State.reset with sess := { (handshakingA State.reset).sess with hsOut := bytes pkA, hsOutValid := true } }

theorem witness_HsReadMovesTheMessageOrKeepsIt :
    State.reset.sess.hsOutValid = false ∧
    (reading 32).sess.hsOutValid = true ∧ (reading 32).host.dout.length + (reading 32).sess.hsOut.length ≤ (reading 32).params.doutCap ∧
    (reading 31).sess.hsOutValid = true ∧ (reading 31).params.doutCap < (reading 31).host.dout.length + (reading 31).sess.hsOut.length := by
  decide +kernel

/-- Block A before `HS_WRITE` of `msg`. -/
def hearing (msg : List Nat) : State := withDin msg (handshakingA State.reset)

theorem witness_HsWriteCompletesOrFailsTheHandshake :
    (hearing pkB).sess.state = .handshaking ∧ (hearing pkB).sess.hsOutValid = false ∧ (hearing pkB).host.din.length = 32 ∧
    32 ≤ (hearing pkB).params.hsMsgMax ∧
    hsChecked (hearing pkB).params (xHsStep (hearing pkB).params (hearing pkB).sess.hsctx
      (operandBytes (hearing pkB).host.din)) = .complete keysAB none ∧
    (hearing pkA).sess.state = .handshaking ∧ (hearing pkA).sess.hsOutValid = false ∧ (hearing pkA).host.din.length = 32 ∧
    hsChecked (hearing pkA).params (xHsStep (hearing pkA).params (hearing pkA).sess.hsctx
      (operandBytes (hearing pkA).host.din)) = .fail 3 ∧
    (hearing (List.replicate 256 0)).sess.state = .handshaking ∧ (hearing (List.replicate 256 0)).sess.hsOutValid = false ∧
    (hearing (List.replicate 256 0)).params.hsMsgMax < (hearing (List.replicate 256 0)).host.din.length := by
  decide +kernel

/-- T0's `Complete` is a success of `hs_apply`, in any state. -/
theorem witness_HsWriteCompletesOrFailsTheHandshake_apply (begun : State) :
    ∃ t, begun.hsApply (hsChecked (hearing pkB).params (xHsStep (hearing pkB).params (hearing pkB).sess.hsctx
      (operandBytes (hearing pkB).host.din))) = .success t := by
  rw [witness_HsWriteCompletesOrFailsTheHandshake.2.2.2.2.1]
  exact ⟨_, rfl⟩

theorem witness_TickCountsDownAndTimesOut :
    (withTimer 2 (handshakingA State.reset)).sess.state = .handshaking ∧
    2 ≤ (withTimer 2 (handshakingA State.reset)).sess.hsTimer.toNat ∧
    (withTimer 1 (handshakingA State.reset)).sess.hsTimer.toNat = 1 ∧
    (handshakingA State.reset).sess.hsTimer = 0 ∧ State.reset.sess.state ≠ .handshaking := by
  decide +kernel

theorem witness_StopTerminatesFromEveryStateAndIsIdempotent :
    (State.reset.terminate .normal 0).sess.state = .terminated ∧ good.sess.state ≠ .terminated ∧
    good.sess.state = .established ∧ (hungUp good).sess.hangupRemoteLatch = true ∧
    (handshakingA State.reset).sess.state = .handshaking ∧ ∃ t, exec .stopSession good = .next t :=
  ⟨by decide +kernel, by decide +kernel, by decide +kernel, by decide +kernel, by decide +kernel, _, rfl⟩

/-- Block A at one sample a symbol with an operand of `n` bytes `aa`, FEC on or off. -/
def feeding (fec : Bool) (n : Nat) : State :=
  withDin (List.replicate n 0xAA)
    (established keysAB (configured { cfgOne with flags := if fec then 1 else 0 } State.reset))

/-- Did `XEncrypt` answer `Ok`? -/
def encIsOk : EncResult → Bool
  | .ok _ _ => true
  | .fatal => false

theorem exists_of_encIsOk {r : EncResult} (h : encIsOk r = true) : ∃ keys ct, r = .ok keys ct := by
  cases r with
  | ok keys ct => exact ⟨keys, ct, rfl⟩
  | fatal => cases h

/-- The largest payloads of V77: 221 bytes with FEC, 253 without. -/
theorem witness_FeedMicFrameQueuesOneFrame :
    ((feeding true 221).sess.state = .established ∧ (feeding true 221).act.cfgValid = true ∧
      (feeding true 221).host.din.length = 221 ∧ (feeding true 221).act.fecEn = true ∧
      221 + 1 + (feeding true 221).params.aeadOverhead ≤ 223 ∧
      ∃ keys ct, encChecked (feeding true 221).params (221 + 1 + (feeding true 221).params.aeadOverhead)
        (xEncrypt (feeding true 221).params (feeding true 221).sess.keys
          (0x00 :: operandBytes (feeding true 221).host.din)) = .ok keys ct) ∧
    ((feeding false 253).sess.state = .established ∧ (feeding false 253).act.cfgValid = true ∧
      (feeding false 253).host.din.length = 253 ∧ (feeding false 253).act.fecEn = false ∧
      253 + 1 + (feeding false 253).params.aeadOverhead ≤ 255 ∧
      ∃ keys ct, encChecked (feeding false 253).params (253 + 1 + (feeding false 253).params.aeadOverhead)
        (xEncrypt (feeding false 253).params (feeding false 253).sess.keys
          (0x00 :: operandBytes (feeding false 253).host.din)) = .ok keys ct) :=
  ⟨⟨by decide +kernel, by decide +kernel, by decide +kernel, by decide +kernel, by decide +kernel,
      exists_of_encIsOk (by decide +kernel)⟩,
    by decide +kernel, by decide +kernel, by decide +kernel, by decide +kernel, by decide +kernel,
    exists_of_encIsOk (by decide +kernel)⟩

theorem witness_SendHangupQueuesTheHangupFrame :
    good.sess.state = .established ∧ good.act.cfgValid = true ∧ good.params.Ok ∧
    encChecked good.params (1 + good.params.aeadOverhead) (xEncrypt good.params good.sess.keys [0x01])
      = .ok keysAB [0x81, 0x01] := by
  decide +kernel

/-- The hypotheses of the statement on `Fatal` for state `s` and a payload of `len` bytes. -/
def encryptionFails (s : State) (len : Nat) : Prop :=
  s.sess.state = .established ∧ s.act.cfgValid = true ∧ s.params.Ok ∧ s.host.din.length = len ∧
  (s.act.fecEn = true → len + 1 + s.params.aeadOverhead ≤ 223) ∧
  (s.act.fecEn = false → len + 1 + s.params.aeadOverhead ≤ 255) ∧
  encChecked s.params (len + 1 + s.params.aeadOverhead)
    (xEncrypt s.params s.sess.keys (0x00 :: operandBytes s.host.din)) = .fatal ∧
  encChecked s.params (1 + s.params.aeadOverhead) (xEncrypt s.params s.sess.keys [0x01]) = .fatal

/-- V59: T0F, with the largest payloads of V77. -/
theorem witness_FatalEncryptionEndsTheSession :
    (encryptionFails (withCollab .t0f (feeding true 221)) 221 ∧ (feeding true 221).act.fecEn = true) ∧
    encryptionFails (withCollab .t0f (feeding false 253)) 253 ∧ (feeding false 253).act.fecEn = false := by
  unfold encryptionFails
  decide +kernel

theorem witness_EveryIncomingFrameIsAccountedFor :
    (silent 8).sess.state = .established ∧ (silent 8).act.cfgValid = true ∧ (silent 8).host.din.length = 8 := by
  decide +kernel

/-- Block A at one sample a symbol with the keys given, FEC on or off, and a silent operand of `n` bytes: every sample
decides symbol 0, so the bytes received are zeros. -/
def silentBytes (fec : Bool) (keys : List Byte) (n : Nat) : State :=
  withDin (List.replicate (4 * n) 0)
    (established keys (configured { cfgOne with flags := if fec then 1 else 0 } State.reset))

/-- `s` with a collaborator port of another `AEAD_OVERHEAD`, so that T0's plaintexts have a wrong length (R267). -/
def withOverhead (n : Nat) (s : State) : State := { s with params := { s.params with aeadOverhead := n } }

/-- The hypotheses of the two statements on incoming frames for state `s` and the received bytes. -/
def frameOf (s : State) (fec : Bool) (len : Nat) (rb : List Byte) : Prop :=
  s.sess.state = .established ∧ s.act.cfgValid = true ∧ s.act.fecEn = fec ∧ s.host.din.length = len ∧
  (rxSamples s.act s.host.din (s.rx.realign s.act.sps)).2 = rb

/-- What T0 answers to the ciphertext `ct`. -/
def answer (s : State) (ct : List Byte) : DecResult :=
  decChecked s.params ct.length (xDecrypt s.params s.sess.keys ct)

/-- T0 on zero bytes, for each clause of `CiphertextDecides`: type 0, type 1, another type, `Reject`, `Fatal`. -/
theorem zero_answers :
    answer (silentBytes false (zeros 64) 2) (zeros 2) = .ok (zeros 64) (0x00 :: []) ∧
    answer (silentBytes false ([1, 1] ++ zeros 62) 3) (zeros 3) = .ok ([1, 1] ++ zeros 62) (0x01 :: [1]) ∧
    answer (silentBytes false ([7, 7] ++ zeros 62) 3) (zeros 3) = .ok ([7, 7] ++ zeros 62) (0x07 :: [7]) ∧
    answer (silentBytes false keysAB 2) (zeros 2) = .reject keysAB ∧
    answer (withOverhead 2 (silentBytes false (zeros 64) 3)) (zeros 3) = .fatal := by
  decide +kernel

/-- A frame too long, one too short, and one for each answer. -/
theorem witness_IncomingFrameIsDeliveredByItsTypeByte :
    (frameOf (silentBytes false (zeros 64) 256) false 1024 (zeros 256) ∧ 255 < (zeros 256).length) ∧
    (frameOf (silentBytes false (zeros 64) 1) false 4 (zeros 1) ∧ (zeros 1).length ≤ State.reset.params.aeadOverhead) ∧
    frameOf (silentBytes false (zeros 64) 2) false 8 (zeros 2) ∧
    frameOf (silentBytes false ([1, 1] ++ zeros 62) 3) false 12 (zeros 3) ∧
    frameOf (silentBytes false ([7, 7] ++ zeros 62) 3) false 12 (zeros 3) ∧
    frameOf (silentBytes false keysAB 2) false 8 (zeros 2) ∧
    (frameOf (withOverhead 2 (silentBytes false (zeros 64) 3)) false 12 (zeros 3) ∧ 2 < (zeros 3).length) := by
  unfold frameOf
  decide +kernel

/-- Two samples a symbol; the tones turn 1/8, 1/4, 3/8 and 1/2 of a turn a sample, so that two samples of one sign are
symbol 0 and two of opposite signs symbol 3. -/
def cfgTwo : ShadowCfg := shadow 16000 0x1F400000 2000 4000 6000 8000 1

/-- The samples of the byte 0 (four symbols 0). -/
def byteZero : List Nat := List.replicate 8 16384

/-- The samples of the byte `FF` (four symbols 3). -/
def byteFull : List Nat := [16384, 49152, 16384, 49152, 16384, 49152, 16384, 49152]

/-- A frame of 34 bytes received with `n` of them `FF` and the rest 0, in `Established` with zero keys. -/
def receiving (n : Nat) : State :=
  withDin ((List.replicate n byteFull).flatten ++ (List.replicate (34 - n) byteZero).flatten)
    (established (zeros 64) (configured cfgTwo State.reset))

/-- Byte counts outside `32 .. 255`; no error, one error and seventeen: the zero word is the codeword. -/
theorem witness_FecFrameIsCorrectedAndDeliveredOrLost :
    (frameOf (silentBytes true (zeros 64) 31) true 124 (zeros 31) ∧ (zeros 31).length < 32) ∧
    (frameOf (silentBytes true (zeros 64) 256) true 1024 (zeros 256) ∧ 255 < (zeros 256).length) ∧
    (frameOf (receiving 0) true 272 (zeros 34) ∧ rsDecode (zeros 34) = .corrected 0 (zeros 34)) ∧
    (frameOf (receiving 1) true 272 (0xFF :: zeros 33) ∧ rsDecode (0xFF :: zeros 33) = .corrected 1 (zeros 34)) ∧
    (frameOf (receiving 17) true 272 (List.replicate 17 0xFF ++ zeros 17) ∧
      rsDecode (List.replicate 17 0xFF ++ zeros 17) = .uncorrectable) := by
  unfold frameOf
  refine ⟨by decide +kernel, by decide +kernel, ⟨by decide +kernel, by decide +kernel⟩,
    ⟨by decide +kernel, by decide +kernel⟩, by decide +kernel, by decide +kernel⟩

/-- A ciphertext too short, and one for each answer, with FEC on. -/
theorem witness_FecFrameIsCorrectedAndDeliveredOrLost_ciphertext :
    (frameOf (silentBytes true (zeros 64) 32) true 128 (zeros 32) ∧ rsDecode (zeros 32) = .corrected 0 (zeros 32) ∧
      ((zeros 32).take (32 - 32)).length ≤ State.reset.params.aeadOverhead) ∧
    answer (receiving 1) ((zeros 34).take (34 - 32)) = .ok (zeros 64) (0x00 :: []) ∧
    rsDecode (zeros 35) = .corrected 0 (zeros 35) ∧
    (frameOf (silentBytes true ([1, 1] ++ zeros 62) 35) true 140 (zeros 35) ∧
      answer (silentBytes true ([1, 1] ++ zeros 62) 35) ((zeros 35).take (35 - 32)) = .ok ([1, 1] ++ zeros 62) (0x01 :: [1])) ∧
    (frameOf (silentBytes true ([7, 7] ++ zeros 62) 35) true 140 (zeros 35) ∧
      answer (silentBytes true ([7, 7] ++ zeros 62) 35) ((zeros 35).take (35 - 32)) = .ok ([7, 7] ++ zeros 62) (0x07 :: [7])) ∧
    (frameOf (silentBytes true keysAB 34) true 136 (zeros 34) ∧
      answer (silentBytes true keysAB 34) ((zeros 34).take (34 - 32)) = .reject keysAB) ∧
    (frameOf (withOverhead 2 (silentBytes true (zeros 64) 35)) true 140 (zeros 35) ∧
      answer (withOverhead 2 (silentBytes true (zeros 64) 35)) ((zeros 35).take (35 - 32)) = .fatal) := by
  unfold frameOf
  refine ⟨⟨by decide +kernel, by decide +kernel, by decide +kernel⟩, by decide +kernel, by decide +kernel,
    by decide +kernel, by decide +kernel, by decide +kernel, by decide +kernel⟩

theorem witness_PullsHandOverTheOldestFrame :
    State.reset.queues.txq = [] ∧ State.reset.queues.rxq = [] ∧
    (withDoutCap 3 (State.reset.pushTxq [1, 2, 3])).queues.txq = [1, 2, 3] :: [] ∧
    (withDoutCap 3 (State.reset.pushTxq [1, 2, 3])).host.dout.length + 3 ≤ 3 ∧
    2 < (withDoutCap 2 (State.reset.pushTxq [1, 2, 3])).host.dout.length + 3 ∧
    (withDoutCap 2 (State.reset.pushRxq [1, 2, 3])).queues.rxq = [1, 2, 3] :: [] := by
  decide +kernel

theorem witness_LengthMismatchKeepsTheOperand :
    (Instr.modulate 2).format = .LD ∧ (Instr.modulate 2).len ≠ (withDin [5] State.reset).host.din.length := by
  decide +kernel

theorem witness_SessionStateErrorCarriesTheState :
    State.reset.sess.state ≠ .idle ∧ State.reset.sess.state ≠ .handshaking ∧ State.reset.sess.state ≠ .established := by
  decide +kernel

/-- The lengths at the edges: 31, 33, 224, 256 bytes, and the payloads one above V77's limits. -/
theorem witness_OperandAndConfigurationErrorsAreRaised :
    State.reset.act.cfgValid = false ∧ (established keysAB State.reset).sess.state = .established ∧
    (withDin (List.replicate 33 0) (idleA State.reset)).host.din.length ≠ 32 ∧ (idleA State.reset).sess.state = .idle ∧
    223 < (withDin (List.replicate 224 0) State.reset).host.din.length ∧
    (withDin (List.replicate 31 0) State.reset).host.din.length < 32 ∧
    255 < (withDin (List.replicate 256 0) State.reset).host.din.length ∧
    (reading 32).sess.state = .handshaking ∧ (reading 32).sess.hsOutValid = true ∧
    (feeding true 222).act.fecEn = true ∧ 223 < (feeding true 222).host.din.length + 1 + (feeding true 222).params.aeadOverhead ∧
    (feeding false 254).act.fecEn = false ∧
    255 < (feeding false 254).host.din.length + 1 + (feeding false 254).params.aeadOverhead := by
  decide +kernel

/-- `DOUT_CAP` one entry too small for each of the five; `DEMODULATE` with the shortest operand, too. -/
theorem witness_CapacityErrorChangesNothingElse :
    (0 < (silent 1).host.din.length ∧ 0 < (withDoutCap 0 (silent 1)).host.dout.length + (silent 1).host.din.length / 4 + 1) ∧
    0 < (silent 8).host.din.length ∧
    tight.act.cfgValid = true ∧ 639 < (withDoutCap 639 tight).host.dout.length + 1 * 4 * tight.act.sps.toNat ∧
    2 < (withDoutCap 2 (silent 8)).host.dout.length + (silent 8).host.din.length / 4 + 1 ∧
    (withDin [1] State.reset).host.din.length ≤ 223 ∧ 32 < State.reset.host.dout.length + 1 + 32 ∧
    32 ≤ (withDin helloWord State.reset).host.din.length ∧ (withDin helloWord State.reset).host.din.length ≤ 255 ∧
    36 < State.reset.host.dout.length + (withDin helloWord State.reset).host.din.length ∧
    (withDin seedA State.reset).host.din.length = 32 ∧ 31 < State.reset.host.dout.length + 32 := by
  decide +kernel

theorem witness_EveryCommandWritesErr : ∃ t, exec .nop State.reset = .next t := ⟨_, rfl⟩

/-- `DIN` full and with room; `DOUT` and `EVQ` empty and not. -/
theorem witness_DataPortsPushAndPop :
    State.reset.host.din.length < State.reset.params.dinCap ∧
    ({ withDin [5] State.reset with params := { Params.defaults with dinCap := 1 } } : State).params.dinCap
      ≤ (withDin [5] State.reset).host.din.length ∧
    (State.reset.pushDout [7]).host.dout = 7 :: [] ∧ State.reset.host.dout = [] ∧
    (State.reset.emit 2 0).queues.evq = 0x00000002 :: [] ∧ State.reset.queues.evq = [] := by
  decide +kernel

theorem witness_ShadowRegistersStoreAndOtherWritesAreIgnored :
    (0x040 % 4 = 0 ∧ 0x040 < 0x200) ∧ (0x064 % 4 = 0 ∧ 0x064 ≤ 0x064) ∧
    (0x1FC % 4 = 0 ∧ 0x1FC < 0x200 ∧ ¬(0x040 ≤ 0x1FC ∧ 0x1FC ≤ 0x064) ∧ 0x1FC ∉ [0x008, 0x018, 0x030, 0x034]) ∧
    (0x03C % 4 = 0 ∧ ¬(0x040 ≤ 0x03C ∧ 0x03C ≤ 0x064)) ∧ 0x024 ∉ [0x020, 0x028] ∧
    (0x068 ≤ 0x07C ∧ 0x07C < 0x080 ∧ 0x124 ≤ 0x1FC) := by
  decide

end Sys2Proof.Tests
end

section
/-! What every command does to the rest of the machine, as one preorder on states: what it keeps (spec/00_scope.md rule
R19) and that it never takes a counter back (R13). Each shared operation is shown to advance a state; each command body then
is a chain of such operations. -/

namespace Sys2Proof.Machine

/-! ## The preorder -/

theorem CountersGrow.refl (s : State) : CountersGrow s s := by
  constructor <;> exact le_refl _

theorem CountersGrow.trans {s t u : State} (h : CountersGrow s t) (h' : CountersGrow t u) : CountersGrow s u where
  symbolsTx := h.symbolsTx.trans h'.symbolsTx
  symbolsRx := h.symbolsRx.trans h'.symbolsRx
  syncLosses := h.syncLosses.trans h'.syncLosses
  encodes := h.encodes.trans h'.encodes
  decodes := h.decodes.trans h'.decodes
  clean := h.clean.trans h'.clean
  corrected := h.corrected.trans h'.corrected
  uncorrectable := h.uncorrectable.trans h'.uncorrectable
  framesTx := h.framesTx.trans h'.framesTx
  framesRx := h.framesRx.trans h'.framesRx
  framesLost := h.framesLost.trans h'.framesLost
  txqDrops := h.txqDrops.trans h'.txqDrops
  rxqDrops := h.rxqDrops.trans h'.rxqDrops
  evDrops := h.evDrops.trans h'.evDrops

/-- A command can lead from `s` to `t` without touching a configuration: the model's own fields, both configurations,
the interrupt enables and the bits only a host access sets are as they were, `CMD_ERR` and `QUEUE_DROP` are not cleared
and no counter decreases (R13, R19, R94, R147, R366). -/
structure State.Advances (s t : State) : Prop extends CountersGrow s t where
  params : t.params = s.params
  pending : t.pending = s.pending
  rdata : t.rdata = s.rdata
  cfg : t.cfg = s.cfg
  act : t.act = s.act
  intEnable : t.host.intEnable = s.host.intEnable
  busy : t.host.busy = s.host.busy
  dinOverflow : t.host.dinOverflow = s.host.dinOverflow
  doutUnderflow : t.host.doutUnderflow = s.host.doutUnderflow
  evUnderflow : t.host.evUnderflow = s.host.evUnderflow
  cmdOverrun : t.host.cmdOverrun = s.host.cmdOverrun
  cmdErr : s.host.cmdErr = true → t.host.cmdErr = true
  queueDrop : s.host.queueDrop = true → t.host.queueDrop = true

namespace State.Advances

theorem refl (s : State) : s.Advances s where
  toCountersGrow := .refl s
  params := rfl
  pending := rfl
  rdata := rfl
  cfg := rfl
  act := rfl
  intEnable := rfl
  busy := rfl
  dinOverflow := rfl
  doutUnderflow := rfl
  evUnderflow := rfl
  cmdOverrun := rfl
  cmdErr := id
  queueDrop := id

theorem trans {s t u : State} (h : s.Advances t) (h' : t.Advances u) : s.Advances u where
  toCountersGrow := h.toCountersGrow.trans h'.toCountersGrow
  params := h'.params.trans h.params
  pending := h'.pending.trans h.pending
  rdata := h'.rdata.trans h.rdata
  cfg := h'.cfg.trans h.cfg
  act := h'.act.trans h.act
  intEnable := h'.intEnable.trans h.intEnable
  busy := h'.busy.trans h.busy
  dinOverflow := h'.dinOverflow.trans h.dinOverflow
  doutUnderflow := h'.doutUnderflow.trans h.doutUnderflow
  evUnderflow := h'.evUnderflow.trans h.evUnderflow
  cmdOverrun := h'.cmdOverrun.trans h.cmdOverrun
  cmdErr := h'.cmdErr ∘ h.cmdErr
  queueDrop := h'.queueDrop ∘ h.queueDrop

/-! ## One rule per shared operation: it goes on advancing whatever has been reached so far -/

variable {s t : State}

/-! ### Results, operands, session -/

theorem setResult0 (h : s.Advances t) (v : Word) : s.Advances (t.setResult0 v) := h.trans { refl t with }

theorem setResult1 (h : s.Advances t) (v : Word) : s.Advances (t.setResult1 v) := h.trans { refl t with }

theorem clearResults (h : s.Advances t) : s.Advances t.clearResults := h.trans { refl t with }

theorem setDin (h : s.Advances t) (din : List Entry) : s.Advances (t.setDin din) := h.trans { refl t with }

theorem pushDout (h : s.Advances t) (es : List Entry) : s.Advances (t.pushDout es) := h.trans { refl t with }

theorem endSuccess (h : s.Advances t) : s.Advances t.endSuccess := h.trans { refl t with }

theorem takeError (h : s.Advances t) (e : CmdError) (d : Byte) : s.Advances (t.takeError e d) :=
  h.trans { refl t with cmdErr := fun _ => rfl }

theorem withSess (h : s.Advances t) (x : Session) : s.Advances { t with sess := x } := h.trans { refl t with }

theorem terminate (h : s.Advances t) (kind : TermKind) (reason : Byte) : s.Advances (t.terminate kind reason) :=
  h.withSess _

theorem modemReset (h : s.Advances t) : s.Advances t.modemReset := h.trans { refl t with }

theorem wipe (h : s.Advances t) : s.Advances t.wipe := h.modemReset.trans { refl t.modemReset with }

/-! ### Queues: a push may drop, and a drop is noted and counted (R315, R316) -/

theorem emit (h : s.Advances t) (code arg : Nat) : s.Advances (t.emit code arg) :=
  h.trans { refl t with
    queueDrop := fun hq => by simp [hq]
    evDrops := countDrop_ge _ _ }

theorem pushTxq (h : s.Advances t) (pcm : List Entry) : s.Advances (t.pushTxq pcm) :=
  h.trans { refl t with
    queueDrop := fun hq => by simp [hq]
    txqDrops := countDrop_ge _ _ }

theorem pushRxq (h : s.Advances t) (payload : List Byte) : s.Advances (t.pushRxq payload) :=
  h.trans { refl t with
    queueDrop := fun hq => by simp [hq]
    rxqDrops := countDrop_ge _ _ }

/-- The queues themselves are free to change, as when a frame is taken out. -/
theorem withFrames (h : s.Advances t) (tx : List (List Entry)) (rx : List (List Byte)) :
    s.Advances { t with queues := { t.queues with txq := tx, rxq := rx } } := h.trans { refl t with }

/-! ### Codec, pipeline and modem counters -/

theorem countEncode (h : s.Advances t) : s.Advances t.countEncode := h.trans { refl t with encodes := satInc_ge _ _ }

theorem countDecode (h : s.Advances t) : s.Advances t.countDecode := h.trans { refl t with decodes := satInc_ge _ _ }

theorem countUncorrectable (h : s.Advances t) : s.Advances t.countUncorrectable :=
  h.trans { refl t with uncorrectable := satInc_ge _ _ }

theorem countCorrected (h : s.Advances t) (cnt : Nat) : s.Advances (t.countCorrected cnt) :=
  h.trans { refl t with
    clean := by
      by_cases hc : cnt = 0
      · simpa [hc] using satInc_ge t.fec.clean 1
      · simp [hc]
    corrected := satInc_ge _ _ }

theorem countFrameTx (h : s.Advances t) :
    s.Advances { t with pipe := { t.pipe with framesTx := satInc t.pipe.framesTx } } :=
  h.trans { refl t with framesTx := satInc_ge _ _ }

theorem countFrameRx (h : s.Advances t) :
    s.Advances { t with pipe := { t.pipe with framesRx := satInc t.pipe.framesRx } } :=
  h.trans { refl t with framesRx := satInc_ge _ _ }

theorem countFrameLost (h : s.Advances t) :
    s.Advances { t with pipe := { t.pipe with framesLost := satInc t.pipe.framesLost } } :=
  h.trans { refl t with framesLost := satInc_ge _ _ }

end State.Advances

/-! ## The modem only counts up -/

theorem txSymbols_symbolsTx_ge (act : ActiveCfg) (vs : List Symbol) (tx : ModemTx) :
    tx.symbolsTx.toNat ≤ (txSymbols act vs tx).1.symbolsTx.toNat := by
  induction vs generalizing tx with
  | nil => exact le_refl _
  | cons v vs ih =>
    calc tx.symbolsTx.toNat
      _ ≤ (txSymbol act tx v).1.symbolsTx.toNat := satInc_ge _ _
      _ ≤ (txSymbols act (v :: vs) tx).1.symbolsTx.toNat := ih _

/-- Neither receive counter of `b` is below that of `a` (R13, R50). -/
structure ModemRx.CountsUp (a b : ModemRx) : Prop where
  symbolsRx : a.symbolsRx.toNat ≤ b.symbolsRx.toNat
  syncLosses : a.syncLosses.toNat ≤ b.syncLosses.toNat

namespace ModemRx.CountsUp

theorem refl (a : ModemRx) : a.CountsUp a := ⟨le_refl _, le_refl _⟩

theorem trans {a b c : ModemRx} (h : a.CountsUp b) (h' : b.CountsUp c) : a.CountsUp c :=
  ⟨h.symbolsRx.trans h'.symbolsRx, h.syncLosses.trans h'.syncLosses⟩

theorem realign (rx : ModemRx) (sps : BitVec 13) : rx.CountsUp (rx.realign sps) := { refl rx with }

/-- Only the loss of lock counts (R175). -/
theorem lockStep (rx : ModemRx) (good : Bool) : rx.CountsUp (rx.lockStep good) := by
  unfold ModemRx.lockStep
  dsimp only
  split
  · exact { refl rx with }
  · split
    · exact { refl rx with syncLosses := satInc_ge _ _ }
    · exact { refl rx with }

/-- Every symbol counts, whether or not it completes a byte (R176). -/
theorem assemble (rx : ModemRx) (sym : Symbol) : rx.CountsUp (rx.assemble sym).1 := by
  unfold ModemRx.assemble
  dsimp only
  split
  · exact { refl rx with symbolsRx := satInc_ge _ _ }
  · exact { refl rx with symbolsRx := satInc_ge _ _ }

theorem nextWindow (rx : ModemRx) (sps : BitVec 13) (corr : Int) : rx.CountsUp (rx.nextWindow sps corr) :=
  { refl rx with }

theorem windowEnd (rx : ModemRx) (act : ActiveCfg) : rx.CountsUp (rx.windowEnd act).1 := by
  have timed (te : BitVec 16) : rx.CountsUp { rx with timingErr := te } := { refl rx with }
  exact (timed _).trans ((lockStep _ _).trans ((assemble _ _).trans (nextWindow _ _ _)))

theorem sample (rx : ModemRx) (act : ActiveCfg) (x : Int) : rx.CountsUp (rx.sample act x).1 := by
  have correlated : rx.CountsUp (rx.correlate act x) := { refl rx with }
  unfold ModemRx.sample
  dsimp only
  split
  · exact correlated.trans (windowEnd _ act)
  · exact correlated

theorem rxSamples (act : ActiveCfg) (xs : List Entry) (rx : ModemRx) : rx.CountsUp (rxSamples act xs rx).1 := by
  induction xs generalizing rx with
  | nil => exact refl rx
  | cons x xs ih => exact (sample rx act (int16 x)).trans (ih _)

end ModemRx.CountsUp

namespace State.Advances

variable {s t : State}

theorem transmit (h : s.Advances t) (act : ActiveCfg) (bs : List Byte) :
    s.Advances { t with tx := (txBytes act bs t.tx).1 } :=
  h.trans { refl t with symbolsTx := txSymbols_symbolsTx_ge _ _ _ }

theorem withRx (h : s.Advances t) {rx : ModemRx} (hrx : t.rx.CountsUp rx) : s.Advances { t with rx := rx } :=
  h.trans { refl t with
    symbolsRx := hrx.symbolsRx
    syncLosses := hrx.syncLosses }

/-! ## The named parts of the session and pipeline bodies -/

theorem emitTeardown (h : s.Advances t) : s.Advances t.emitTeardown := by
  unfold State.emitTeardown
  split
  · exact h.emit _ _
  · exact h.emit _ _
  all_goals exact h

theorem beginHandshake (h : s.Advances t) (role : Role) (peer : List Byte) : s.Advances (t.beginHandshake role peer) :=
  (h.withSess _).emit _ _

theorem queueFrame (h : s.Advances t) (bytes : List Byte) : s.Advances (t.queueFrame bytes) :=
  ((h.transmit _ bytes).pushTxq _).countFrameTx.setResult0 _

theorem lost (h : s.Advances t) (reason : Nat) : s.Advances (t.lost reason) := h.countFrameLost.emit _ _

theorem lostMalformed (h : s.Advances t) : s.Advances t.lostMalformed := (h.lost _).setResult0 _

/-- Speech, a hangup or a malformed frame (R311, R325). -/
theorem deliver (h : s.Advances t) (pt : List Byte) : s.Advances (t.deliver pt) := by
  unfold State.deliver
  split
  · exact h.lostMalformed
  · split
    · exact (h.pushRxq _).setResult0 _
    · split
      · exact (h.withSess _).setResult0 _
      · exact h.lostMalformed

end State.Advances

/-! ## Command bodies -/

/-- Whatever state a body leaves behind, it advances `pre`; a raise leaves none behind (R19). -/
def Verdict.AdvancesFrom (pre : State) : Verdict → Prop
  | .success t => pre.Advances t
  | .raised _ _ => True
  | .reported t _ _ => pre.Advances t

theorem Verdict.AdvancesFrom.finish {pre : State} {v : Verdict} (h : v.AdvancesFrom pre) : pre.Advances (v.finish pre) := by
  cases v with
  | success t => exact State.Advances.endSuccess h
  | raised e d => exact (State.Advances.refl pre).takeError e d
  | reported t e d => exact State.Advances.takeError h e d

theorem Verdict.AdvancesFrom.andThen {pre : State} {v : Verdict} {f : State → State} (h : v.AdvancesFrom pre)
    (hf : ∀ t, pre.Advances t → pre.Advances (f t)) : (v.andThen f).AdvancesFrom pre := by
  cases v with
  | success t => exact hf t h
  | raised e d => exact trivial
  | reported t e d => exact h

section Bodies

open State.Advances (refl)

variable (s : State) (operand : List Entry)

theorem dioFlushBody_advances : (dioFlushBody s).AdvancesFrom s := show s.Advances _ from { refl s with }

theorem modemResetBody_advances : (modemResetBody s).AdvancesFrom s := (refl s).modemReset

theorem samplesForBytesBody_advances (len : Nat) : (samplesForBytesBody len s).AdvancesFrom s := by
  unfold samplesForBytesBody
  split
  · trivial
  · exact ((refl s).setResult0 _).setResult1 _

theorem modulateBody_advances : (modulateBody operand s).AdvancesFrom s := by
  unfold modulateBody
  split
  · trivial
  · dsimp only
    split
    · trivial
    · exact (((refl s).transmit _ _).pushDout _).setResult0 _

theorem demodulateBody_advances : (demodulateBody operand s).AdvancesFrom s := by
  unfold demodulateBody
  split
  · trivial
  · split
    · trivial
    · exact (((refl s).withRx (.rxSamples _ operand _)).pushDout _).setResult0 _

theorem fecEncodeBody_advances : (fecEncodeBody operand s).AdvancesFrom s := by
  unfold fecEncodeBody
  split
  · trivial
  · split
    · trivial
    · exact ((refl s).pushDout _).countEncode.setResult0 _

theorem fecDecodeBody_advances : (fecDecodeBody operand s).AdvancesFrom s := by
  unfold fecDecodeBody
  split
  · trivial
  · split
    · trivial
    · split
      · exact (refl s).countDecode.countUncorrectable
      · exact (((refl s).countDecode.countCorrected _).pushDout _).setResult0 _

theorem fecEncodedLenBody_advances (len : Nat) : (fecEncodedLenBody len s).AdvancesFrom s := (refl s).setResult0 _

theorem fecDataLenBody_advances (len : Nat) : (fecDataLenBody len s).AdvancesFrom s := (refl s).setResult0 _

theorem hsFail_advances {pre s : State} (h : pre.Advances s) (reason : Nat) : (s.hsFail reason).AdvancesFrom pre :=
  (h.emit _ _).wipe.terminate _ _

theorem fatal_advances {pre s : State} (h : pre.Advances s) (reason : Nat) : (s.fatal reason).AdvancesFrom pre :=
  (h.emit _ _).wipe.terminate _ _

theorem hsApply_advances {pre s : State} (h : pre.Advances s) (r : HsResult) : (s.hsApply r).AdvancesFrom pre := by
  cases r with
  | cont ctx out => exact h.withSess _
  | complete keys out => exact ((h.withSess _).emit _ _).emit _ _
  | fail reason => exact hsFail_advances h reason

theorem initializeBody_advances : (initializeBody operand s).AdvancesFrom s := by
  unfold initializeBody
  split
  · trivial
  · exact (refl s).emitTeardown.wipe.withSess _

theorem derivePubkeyBody_advances : (derivePubkeyBody operand s).AdvancesFrom s := by
  unfold derivePubkeyBody
  split
  · trivial
  · split
    · trivial
    · exact ((refl s).pushDout _).setResult0 _

theorem startBody_advances (role : Role) : (startBody role operand s).AdvancesFrom s := by
  unfold startBody
  split
  · trivial
  · split
    · trivial
    · exact hsApply_advances ((refl s).beginHandshake _ _) _

theorem hsReadBody_advances : (hsReadBody s).AdvancesFrom s := by
  unfold hsReadBody
  split
  · exact (refl s).setResult0 _
  · split
    · trivial
    · exact (((refl s).pushDout _).setResult0 _).withSess _

theorem hsWriteBody_advances : (hsWriteBody operand s).AdvancesFrom s := by
  unfold hsWriteBody
  split
  · trivial
  · split
    · trivial
    · split
      · exact hsFail_advances (refl s) _
      · exact hsApply_advances (refl s) _

theorem tickBody_advances : (tickBody s).AdvancesFrom s := by
  unfold tickBody
  split
  · dsimp only
    split
    · exact hsFail_advances ((refl s).withSess _) _
    · exact ((refl s).withSess _).setResult0 _
  · exact (refl s).setResult0 _

theorem stopBody_advances : (stopBody s).AdvancesFrom s := by
  unfold stopBody
  split
  · exact refl s
  · exact (refl s).emitTeardown.wipe.terminate _ _

theorem consumeRemoteHangupBody_advances : (consumeRemoteHangupBody s).AdvancesFrom s :=
  ((refl s).setResult0 _).withSess _

theorem txFrame_advances (type : Byte) (payload : List Byte) : (s.txFrame type payload).AdvancesFrom s := by
  unfold State.txFrame
  dsimp only
  split
  · trivial
  · split
    · trivial
    · split
      · trivial
      · split
        · exact fatal_advances (refl s) _
        · next keys ct _ =>
          have keyed := (refl s).withSess { s.sess with keys := keys }
          show s.Advances _
          split
          · exact keyed.countEncode.queueFrame _
          · exact keyed.queueFrame _

theorem feedMicFrameBody_advances : (feedMicFrameBody operand s).AdvancesFrom s := by
  unfold feedMicFrameBody
  split
  · trivial
  · exact txFrame_advances s _ _

theorem sendHangupBody_advances : (sendHangupBody s).AdvancesFrom s := by
  unfold sendHangupBody
  split
  · trivial
  · exact (txFrame_advances s _ _).andThen fun t h => h.withSess _

theorem generateOutgoingFrameBody_advances : (generateOutgoingFrameBody s).AdvancesFrom s := by
  unfold generateOutgoingFrameBody
  split
  · exact (refl s).clearResults
  · split
    · trivial
    · exact ((((refl s).withFrames _ _).pushDout _).setResult0 _).setResult1 _

theorem pullSpeakerFrameBody_advances : (pullSpeakerFrameBody s).AdvancesFrom s := by
  unfold pullSpeakerFrameBody
  split
  · exact (refl s).clearResults
  · split
    · trivial
    · exact ((((refl s).withFrames _ _).pushDout _).setResult0 _).setResult1 _

theorem decryptFrame_advances {pre s : State} (h : pre.Advances s) (ct : List Byte) :
    (s.decryptFrame ct).AdvancesFrom pre := by
  unfold State.decryptFrame
  split
  · exact h.lostMalformed
  · split
    · exact fatal_advances h _
    · exact ((h.withSess _).lost _).setResult0 _
    · exact (h.withSess _).deliver _

theorem decodeFrame_advances {pre s : State} (h : pre.Advances s) (rb : List Byte) :
    (s.decodeFrame rb).AdvancesFrom pre := by
  unfold State.decodeFrame
  split
  · split
    · exact h.lostMalformed
    · split
      · exact (h.countDecode.countUncorrectable.lost _).setResult0 _
      · next cnt cw _ =>
        have corrected := (h.countDecode.countCorrected cnt).setResult1 (resultWord cnt)
        apply decryptFrame_advances
        split
        · exact corrected.emit _ _
        · exact corrected
  · split
    · exact h.lostMalformed
    · exact decryptFrame_advances h rb

theorem handleIncomingFrameBody_advances : (handleIncomingFrameBody operand s).AdvancesFrom s := by
  unfold handleIncomingFrameBody
  split
  · trivial
  · split
    · trivial
    · have received : s.rx.CountsUp (rxSamples s.act operand (s.rx.realign s.act.sps)).1 :=
        (ModemRx.CountsUp.realign _ _).trans (.rxSamples _ _ _)
      exact decodeFrame_advances ((refl s).withRx received).countFrameRx _

/-- `SET_CONFIG` raises, or goes on from the state with the new active configuration (R142). -/
theorem setConfigBody_cases :
    (∃ d, setConfigBody s = .raised .config d) ∨
    ∃ t, setConfigBody s = .success t ∧ State.Advances { s with act := s.cfg.activate } t := by
  have activated := refl { s with act := s.cfg.activate }
  unfold setConfigBody
  split
  · exact .inl ⟨_, rfl⟩
  · refine .inr ⟨_, rfl, State.Advances.setResult1 (State.Advances.setResult0 ?_ _) _⟩
    split
    · exact activated.modemReset
    · exact activated

end Bodies

/-! ## Every command -/

/-- `r` is a next state, which advances `s` (R19). -/
def AnswersAdvanced (s : State) (r : Host.Outcome State Fault Refusal) : Prop := ∃ t, r = .next t ∧ s.Advances t

theorem runZ_advances {body : State → Verdict} (h : ∀ u, (body u).AdvancesFrom u) (s : State) :
    AnswersAdvanced s (runZ body s) :=
  ⟨_, runZ_eq body s, (State.Advances.refl s).clearResults.trans (h s.clearResults).finish⟩

theorem runLD_advances {body : List Entry → State → Verdict} (h : ∀ u operand, (body operand u).AdvancesFrom u)
    (len : Nat) (s : State) : AnswersAdvanced s (runLD len body s) := by
  obtain ⟨-, hrun⟩ | ⟨-, hrun⟩ := runLD_cases len body s
  · exact ⟨_, hrun, (State.Advances.refl s).takeError _ _⟩
  · exact ⟨_, hrun, ((State.Advances.refl s).setDin []).clearResults.trans (h _ _).finish⟩

theorem exec_advances {i : Instr} (hi : i ≠ .setConfig) (s : State) : AnswersAdvanced s (exec i s) := by
  cases i with
  | setConfig => exact absurd rfl hi
  | nop => exact runZ_advances (body := .success) State.Advances.refl s
  | dioFlush => exact runZ_advances dioFlushBody_advances s
  | modemReset => exact runZ_advances modemResetBody_advances s
  | samplesForBytes len => exact runZ_advances (samplesForBytesBody_advances · len) s
  | modulate len => exact runLD_advances modulateBody_advances len s
  | demodulate len => exact runLD_advances demodulateBody_advances len s
  | fecEncode len => exact runLD_advances fecEncodeBody_advances len s
  | fecDecode len => exact runLD_advances fecDecodeBody_advances len s
  | fecEncodedLen len => exact runZ_advances (fecEncodedLenBody_advances · len) s
  | fecDataLen len => exact runZ_advances (fecDataLenBody_advances · len) s
  | initializeSession len => exact runLD_advances initializeBody_advances len s
  | startServer len => exact runLD_advances (startBody_advances · · .server) len s
  | startClient len => exact runLD_advances (startBody_advances · · .client) len s
  | stopSession => exact runZ_advances stopBody_advances s
  | derivePubkey len => exact runLD_advances derivePubkeyBody_advances len s
  | sendHangup => exact runZ_advances sendHangupBody_advances s
  | consumeRemoteHangup => exact runZ_advances consumeRemoteHangupBody_advances s
  | hsRead => exact runZ_advances hsReadBody_advances s
  | hsWrite len => exact runLD_advances hsWriteBody_advances len s
  | tick => exact runZ_advances tickBody_advances s
  | feedMicFrame len => exact runLD_advances feedMicFrameBody_advances len s
  | handleIncomingFrame len => exact runLD_advances handleIncomingFrameBody_advances len s
  | generateOutgoingFrame => exact runZ_advances generateOutgoingFrameBody_advances s
  | pullSpeakerFrame => exact runZ_advances pullSpeakerFrameBody_advances s

/-- `SET_CONFIG` keeps the active configuration or installs a valid one, and otherwise does what every command does. -/
theorem exec_setConfig_advances (s : State) :
    ∃ a t, exec .setConfig s = .next t ∧ State.Advances { s with act := a } t ∧ (a = s.act ∨ a.cfgValid = true) := by
  have cleared (a : ActiveCfg) : State.Advances { s with act := a } { s.clearResults with act := a } :=
    (State.Advances.refl _).clearResults
  have hrun : exec .setConfig s = .next ((setConfigBody s.clearResults).finish s.clearResults) := rfl
  obtain ⟨d, hbody⟩ | ⟨t, hbody, ht⟩ := setConfigBody_cases s.clearResults
  · rw [hbody] at hrun
    exact ⟨s.act, _, hrun, (cleared s.act).takeError _ _, .inl rfl⟩
  · rw [hbody] at hrun
    exact ⟨_, _, hrun, ((cleared _).trans ht).endSuccess, .inr rfl⟩

/-- What every command does: it advances the state with an active configuration which, but for `SET_CONFIG`, is the
one it had, and which is valid if that one was (R19, R41, R147). -/
theorem exec_answers (i : Instr) (s : State) :
    ∃ a t, exec i s = .next t ∧ State.Advances { s with act := a } t ∧ (i ≠ .setConfig → a = s.act) ∧
      (s.act.cfgValid = true → a.cfgValid = true) := by
  by_cases hi : i = .setConfig
  · subst hi
    obtain ⟨a, t, hrun, hadv, rfl | hvalid⟩ := exec_setConfig_advances s
    · exact ⟨_, t, hrun, hadv, fun _ => rfl, id⟩
    · exact ⟨a, t, hrun, hadv, fun h => absurd rfl h, fun _ => hvalid⟩
  · obtain ⟨t, hrun, hadv⟩ := exec_advances hi s
    exact ⟨s.act, t, hrun, hadv, fun _ => rfl, id⟩

/-- Settles O5: what `exec_answers` says of the next state, field by field. -/
theorem commandsAlwaysAnswerAndKeepTheConfiguration : Obligations.CommandsAlwaysAnswerAndKeepTheConfiguration := by
  intro i s
  obtain ⟨a, t, hrun, hadv, hact, -⟩ := exec_answers i s
  exact ⟨t, hrun, hadv.params, hadv.pending, hadv.rdata, hadv.cfg, hadv.intEnable, hadv.busy, hadv.dinOverflow,
    hadv.doutUnderflow, hadv.evUnderflow, hadv.cmdOverrun, hadv.cmdErr, hadv.queueDrop,
    fun hi => hadv.act.trans (hact hi)⟩

/-! ## Every access but the reset -/

/-- A register write other than `CMD` changes the host interface or the shadow configuration alone (R89, R93 to R96). -/
theorem regWrite_eq (s : State) (off : Nat) (v : Word) : ∃ h c, s.regWrite off v = { s with host := h, cfg := c } := by
  unfold State.regWrite State.pushDin
  split
  · split <;> exact ⟨_, _, rfl⟩
  all_goals exact ⟨_, _, rfl⟩

/-- The effect of a read is on the host interface or the event queue alone (R91, R92, R100). -/
theorem readEffect_eq (s : State) (off : Nat) :
    ∃ h q, s.readEffect off = { s with host := h, queues := { s.queues with evq := q } } := by
  unfold State.readEffect State.popDout State.popEvent
  split
  · split <;> exact ⟨_, _, rfl⟩
  · split <;> exact ⟨_, _, rfl⟩
  · exact ⟨_, _, rfl⟩

/-- No counter decreases and a valid configuration stays valid (R13, R41). -/
def KeepsCounting (s t : State) : Prop := CountersGrow s t ∧ (s.act.cfgValid = true → t.act.cfgValid = true)

theorem regWrite_keepsCounting (s : State) (off : Nat) (v : Word) : KeepsCounting s (s.regWrite off v) := by
  obtain ⟨h, c, heq⟩ := regWrite_eq s off v
  rw [heq]
  exact ⟨{ CountersGrow.refl s with }, id⟩

theorem read_keepsCounting (s : State) (off : Nat) (d : Option Word) :
    KeepsCounting s { s.readEffect off with rdata := d } := by
  obtain ⟨h, q, heq⟩ := readEffect_eq s off
  rw [heq]
  exact ⟨{ CountersGrow.refl s with }, id⟩

theorem exec_keepsCounting {i : Instr} {s t : State} (h : exec i s = .next t) : KeepsCounting s t := by
  obtain ⟨a, u, hrun, hadv, -, hvalid⟩ := exec_answers i s
  obtain rfl : u = t := by simpa [hrun] using h
  exact ⟨{ hadv with }, fun hs => by rw [hadv.act]; exact hvalid hs⟩

theorem runCommand_keepsCounting {w : Word} {s t : State} (h : runCommand w s = .next t) : KeepsCounting s t := by
  obtain ⟨-, hrun⟩ | ⟨-, i, -, hrun⟩ | ⟨-, e, -, hrun⟩ := runCommand_cases w s
  · obtain rfl : _ = t := by simpa [hrun] using h
    exact ⟨{ CountersGrow.refl s with }, id⟩
  · exact exec_keepsCounting (hrun ▸ h)
  · obtain rfl : _ = t := by simpa [hrun] using h
    exact ⟨{ CountersGrow.refl s with }, id⟩

theorem serveAccess_keepsCounting {a : BusAccess} {s t : State} (ha : a ≠ .reset) (h : serveAccess a s = .next t) :
    KeepsCounting s t := by
  obtain ⟨off, -, rfl⟩ | ⟨off, v, -, -, rfl⟩ | ⟨v, -, hrun⟩ | ⟨hreset, -⟩ := serveAccess_cases h
  · exact read_keepsCounting s off _
  · exact regWrite_keepsCounting s off v
  · exact runCommand_keepsCounting hrun
  · exact absurd hreset ha

/-- Settles O15: an idle step changes nothing, and every access but the reset keeps counting. -/
theorem countersNeverDecreaseExceptAtReset : Obligations.CountersNeverDecreaseExceptAtReset := by
  intro s t hpending hstep
  obtain ⟨-, hidle⟩ | ⟨a, rest, hfirst, hserve⟩ := step_cases s
  · obtain rfl : s = t := by simpa [hidle] using hstep
    exact ⟨.refl s, id⟩
  · have ha : a ≠ .reset := fun hreset => hpending rest (hreset ▸ hfirst)
    obtain ⟨hgrow, hvalid⟩ := serveAccess_keepsCounting ha (hserve ▸ hstep)
    exact ⟨{ hgrow with }, hvalid⟩

end Sys2Proof.Machine
end

section
/-! What a command can do to the machine, said once: a chain of edits, each one of a short list (spec/10_state.md rule R67:
every command keeps the invariants). A body either raises and discards what it did, or ends in a state that such a chain
reaches; an invariant then needs one rule per edit and not one per command. -/

namespace Sys2Proof.Machine

/-! ## The edits -/

/-- How a command can move the session registers (R272 to R276, R280, R285, R294, R296, R320, R325). -/
inductive Session.Move (p : Params) (x : Session) : Session → Prop where
  /-- Wiped, and terminated for a reason that only an error has. -/
  | terminated (kind : TermKind) (reason : Byte) (hkind : kind ≠ .noTerm) (hreason : reason ≠ 0 → kind = .error) :
      Move p x { x.wipe p with state := .terminated, termKind := kind, termReason := reason }
  /-- Wiped, and a new keypair installed. -/
  | initialized (sk pk : List Byte) (hsk : sk.length = p.skBytes) (hpk : pk.length = 32) :
      Move p x { x.wipe p with
        sk := sk, pk := pk, keypairValid := true, state := .idle, termKind := .noTerm, termReason := 0 }
  /-- `Idle` to `Handshaking` with a peer. -/
  | begun (role : Role) (peer : List Byte) (hidle : x.state = .idle) (hpeer : peer.length = 32) :
      Move p x { x with
        role := role, peerKey := peer
        hangupLocalSent := false, hangupRemotePending := false, hangupRemoteLatch := false
        hsOut := [], hsOutValid := false, state := .handshaking }
  /-- The handshake goes on with a new context and a restarted timer. -/
  | continued (ctx : List Byte) (out : Option (List Byte)) (timer : Word) (hstate : x.state = .handshaking)
      (hctx : ctx.length = p.hsctxBytes) (hout : hsOutOk p out = true) :
      Move p x { ({ x with hsctx := ctx } : Session).postMessage out with hsTimer := timer }
  /-- The handshake is complete. -/
  | established (keys : List Byte) (out : Option (List Byte)) (hstate : x.state = .handshaking)
      (hkeys : keys.length = p.keysBytes) (hout : hsOutOk p out = true) :
      Move p x { ({ x with keys := keys, hsctx := zeros p.hsctxBytes, hsTimer := 0 } : Session).postMessage out with
        state := .established }
  /-- The host took the message out of the mailbox. -/
  | collected : Move p x { x with hsOut := [], hsOutValid := false }
  /-- The handshake timer moved. -/
  | ticked (timer : Word) (hstate : x.state = .handshaking) : Move p x { x with hsTimer := timer }
  /-- The hangup flags moved. -/
  | flagged (localSent pending latch : Bool) :
      Move p x { x with hangupLocalSent := localSent, hangupRemotePending := pending, hangupRemoteLatch := latch }
  /-- The collaborator answered new keys for a frame. -/
  | rekeyed (keys : List Byte) (hstate : x.state = .established) (hkeys : keys.length = p.keysBytes) :
      Move p x { x with keys := keys }

/-- One thing a command body can do to the machine. -/
inductive State.Edit (s : State) : State → Prop where
  | setResult0 (v : Word) : Edit s (s.setResult0 v)
  | setResult1 (v : Word) : Edit s (s.setResult1 v)
  /-- The operand is consumed (R118 step 3). -/
  | takeOperand : Edit s (s.setDin [])
  /-- Both data FIFOs are emptied (R148, R272). -/
  | flush : Edit s { s with host := { s.host with din := [], dout := [] } }
  /-- Entries that fit are appended to `DOUT` (R359). -/
  | pushDout (es : List Entry) (hfits : es ≠ [] → s.host.dout.length + es.length ≤ s.params.doutCap) :
      Edit s (s.pushDout es)
  /-- One of the eight events is emitted (R116). -/
  | emit (code arg : Nat) (hcode : 1 ≤ code ∧ code ≤ 8) : Edit s (s.emit code arg)
  /-- A frame of at most 255 bytes is modulated and queued (R313, R320). -/
  | queueFrame (bytes : List Byte) (hvalid : s.act.cfgValid = true) (hlen : bytes.length ≤ 255) :
      Edit s (s.queueFrame bytes)
  /-- A payload of at most 254 bytes is queued for the speaker (R314, R325). -/
  | pushRxq (payload : List Byte) (hlen : payload.length ≤ 254) : Edit s (s.pushRxq payload)
  /-- Oldest frames are taken out of the frame queues (R272, R330, R331). -/
  | dropFrames (tx : List (List Entry)) (rx : List (List Byte)) (htx : tx <:+ s.queues.txq) (hrx : rx <:+ s.queues.rxq) :
      Edit s { s with queues := { s.queues with txq := tx, rxq := rx } }
  | countEncode : Edit s s.countEncode
  /-- A decode that failed is counted (R227, R325). -/
  | countFailure : Edit s s.countDecode.countUncorrectable
  /-- A decode that corrected `cnt` bytes is counted (R227, R325). -/
  | countSuccess (cnt : Nat) : Edit s (s.countDecode.countCorrected cnt)
  | countFrames (pipe : PipeStats) : Edit s { s with pipe := pipe }
  | modemReset : Edit s s.modemReset
  /-- Bytes are modulated (R164). -/
  | transmit (bytes : List Byte) (hvalid : s.act.cfgValid = true) :
      Edit s { s with tx := (txBytes s.act bytes s.tx).1 }
  /-- Samples are demodulated (R178, R325). -/
  | receive (samples : List Entry) (hvalid : s.act.cfgValid = true) :
      Edit s { s with rx := (rxSamples s.act samples s.rx).1 }
  /-- The receive window is restarted before a frame (R179, R325). -/
  | realign (hvalid : s.act.cfgValid = true) : Edit s { s with rx := s.rx.realign s.act.sps }
  /-- A valid configuration that changes no modem parameter is activated (R142). -/
  | activate (hcfg : s.cfg.invalid = none) (hsame : modemChanged s.cfg s.act = false) :
      Edit s { s with act := s.cfg.activate }
  /-- A valid configuration is activated and the modem reset (R142). -/
  | reconfigure (hcfg : s.cfg.invalid = none) : Edit s ({ s with act := s.cfg.activate } : State).modemReset
  | session (x : Session) (hmove : s.sess.Move s.params x) : Edit s { s with sess := x }

/-- `t` is reached from `s` by a chain of edits. -/
abbrev State.Edits : State → State → Prop := Relation.ReflTransGen State.Edit

/-- The chain that has not begun. -/
theorem State.Edits.start (s : State) : s.Edits s := Relation.ReflTransGen.refl

theorem State.Edits.edit {s t u : State} (h : s.Edits t) (hlast : t.Edit u) : s.Edits u :=
  Relation.ReflTransGen.tail h hlast

/-- Whatever every edit keeps, a chain of edits keeps. -/
theorem State.Edits.keep {P : State → Prop} (hedit : ∀ {s t : State}, s.Edit t → P s → P t) {s t : State}
    (h : s.Edits t) (hs : P s) : P t := by
  induction h with
  | refl => exact hs
  | tail _ hlast ih => exact hedit hlast ih

/-! ## How a body ends -/

/-- Whatever state the body leaves behind is reached from `pre` by edits, and an error it ends with is not that of an illegal
command word, which the decoder alone raises (R19, R114). -/
def Verdict.EditsFrom (pre : State) : Verdict → Prop
  | .success t => pre.Edits t
  | .raised e _ => e ≠ .illegalCommand
  | .reported t e _ => pre.Edits t ∧ e ≠ .illegalCommand

theorem Verdict.EditsFrom.raised {pre : State} {e : CmdError} {d : Byte} (he : e ≠ .illegalCommand) :
    (Verdict.raised e d).EditsFrom pre := he

theorem Verdict.EditsFrom.andThen {pre : State} {v : Verdict} {f : State → State} (h : v.EditsFrom pre)
    (hf : ∀ t : State, t.Edit (f t)) : (v.andThen f).EditsFrom pre := by
  cases v with
  | success t => exact State.Edits.edit h (hf t)
  | raised e d => exact h
  | reported t e d => exact h

/-! ## The shared parts of the bodies -/

namespace State.Edits

variable {s t : State}

theorem clearResults (h : s.Edits t) : s.Edits t.clearResults := (h.edit (.setResult0 0)).edit (.setResult1 0)

/-- A wipe ends in the session it was made for (R272). -/
theorem wipeInto (h : s.Edits t) {x : Session} (hx : t.sess.Move t.params x) : s.Edits { t.wipe with sess := x } :=
  (((h.edit .modemReset).edit (.session x hx)).edit (.dropFrames [] [] List.nil_suffix List.nil_suffix)).edit .flush

theorem emitTeardown (h : s.Edits t) : s.Edits t.emitTeardown := by
  unfold State.emitTeardown
  split
  · exact h.edit (.emit _ _ (by decide))
  · exact h.edit (.emit _ _ (by decide))
  all_goals exact h

theorem terminate (h : s.Edits t) {kind : TermKind} {reason : Byte} (hkind : kind ≠ .noTerm)
    (hreason : reason ≠ 0 → kind = .error) : s.Edits (t.wipe.terminate kind reason) :=
  h.wipeInto (.terminated kind reason hkind hreason)

theorem hsFail (h : s.Edits t) (reason : Nat) : (t.hsFail reason).EditsFrom s :=
  ⟨(h.edit (.emit 3 reason (by decide))).terminate (by decide) fun _ => rfl, by decide⟩

theorem fatal (h : s.Edits t) (reason : Nat) : (t.fatal reason).EditsFrom s :=
  ⟨(h.edit (.emit 7 reason (by decide))).terminate (by decide) fun _ => rfl, by decide⟩

/-- `hs_apply` on a result that passed the shape check, while the session is `Handshaking` (R273). -/
theorem hsApply (h : s.Edits t) (hstate : t.sess.state = .handshaking) (r : HsResult) :
    (t.hsApply (hsChecked t.params r)).EditsFrom s := by
  obtain ⟨ctx, out, hr, hctx, hout⟩ | ⟨keys, out, hr, hkeys, hout⟩ | ⟨reason, hr, -⟩ := hsChecked_cases t.params r
  · rw [hr]
    exact h.edit (.session _ (.continued ctx out _ hstate hctx hout))
  · rw [hr]
    have moved := h.edit (.session _ (.established keys out hstate hkeys hout))
    exact (moved.edit (.emit 2 0 (by decide))).edit (.emit 4 0 (by decide))
  · rw [hr]
    exact h.hsFail reason

theorem lost (h : s.Edits t) (reason : Nat) : s.Edits (t.lost reason) :=
  (h.edit (.countFrames _)).edit (.emit 6 reason (by decide))

theorem lostMalformed (h : s.Edits t) : s.Edits t.lostMalformed := (h.lost 1).edit (.setResult0 2)

/-- Speech, a hangup or a malformed frame (R311, R325). -/
theorem deliver (h : s.Edits t) (pt : List Byte) (hpt : pt.length ≤ 255) : s.Edits (t.deliver pt) := by
  unfold State.deliver
  split
  · exact h.lostMalformed
  · next type payload =>
    split
    · exact (h.edit (.pushRxq payload (Nat.le_of_lt_succ hpt))).edit (.setResult0 0)
    · split
      · exact (h.edit (.session _ (.flagged _ true true))).edit (.setResult0 1)
      · exact h.lostMalformed

end State.Edits

/-! ## Command bodies -/

theorem correctAt_length (om lamD r : List Byte) (p : Nat) : (correctAt om lamD r p).length = r.length := by
  simp [correctAt]

/-- The decoder keeps the length of the word (R225, R226). -/
theorem rsDecode_length {r word : List Byte} {count : Nat} (h : rsDecode r = .corrected count word) :
    word.length = r.length := by
  have kept (om lamD : List Byte) (ps : List Nat) (r : List Byte) :
      (ps.foldl (correctAt om lamD) r).length = r.length := by
    induction ps generalizing r with
    | nil => rfl
    | cons p ps ih => rw [List.foldl_cons, ih, correctAt_length]
  unfold rsDecode at h
  dsimp only at h
  split at h
  · cases h; rfl
  · split at h
    · cases h
    · cases h; exact kept _ _ _ _

/-- A symbol is one more in the assembler, or completes four to one byte (R176). -/
theorem assemble_count (rx : ModemRx) (sym : Symbol) :
    4 * (rx.assemble sym).2.toList.length + (rx.assemble sym).1.nsym.toNat = rx.nsym.toNat + 1 := by
  unfold ModemRx.assemble
  have := rx.nsym.isLt
  dsimp only
  split
  · simp; omega
  · next hn => simp [BitVec.toNat_add]; omega

theorem lockStep_nsym (rx : ModemRx) (good : Bool) : (rx.lockStep good).nsym = rx.nsym := by
  unfold ModemRx.lockStep
  dsimp only
  split
  · rfl
  · split <;> rfl

/-- A sample is worth at most one symbol (R170). -/
theorem sample_count (rx : ModemRx) (act : ActiveCfg) (x : Int) :
    4 * (rx.sample act x).2.toList.length + (rx.sample act x).1.nsym.toNat ≤ rx.nsym.toNat + 1 := by
  unfold ModemRx.sample
  dsimp only
  split
  · exact (assemble_count _ _).le.trans (by rw [lockStep_nsym]; exact le_refl _)
  · exact (Nat.zero_add _).le.trans (Nat.le_succ _)

theorem rxSamples_count (act : ActiveCfg) (xs : List Entry) (rx : ModemRx) :
    4 * (rxSamples act xs rx).2.length + (rxSamples act xs rx).1.nsym.toNat ≤ rx.nsym.toNat + xs.length := by
  induction xs generalizing rx with
  | nil => simp [rxSamples]
  | cons x xs ih =>
    have first := sample_count rx act (int16 x)
    have others := ih (rx.sample act (int16 x)).1
    simp only [rxSamples, List.length_append, List.length_cons]
    omega

/-- What `DEMODULATE` tests for is room for every byte it can put out (R178). -/
theorem rxSamples_length_le (act : ActiveCfg) (xs : List Entry) (rx : ModemRx) :
    (rxSamples act xs rx).2.length ≤ xs.length / 4 + 1 := by
  have := rxSamples_count act xs rx
  have := rx.nsym.isLt
  omega

theorem operandBytes_length (operand : List Entry) : (operandBytes operand).length = operand.length :=
  List.length_map _

section Bodies

variable (s : State) (operand : List Entry)

open State.Edits (start)

open Verdict.EditsFrom (raised)

theorem setConfigBody_edits : (setConfigBody s).EditsFrom s := by
  unfold setConfigBody
  split
  · exact raised (by decide)
  · next hcfg =>
    have results {t : State} (h : s.Edits t) (v w : Word) : s.Edits ((t.setResult0 v).setResult1 w) :=
      (h.edit (.setResult0 v)).edit (.setResult1 w)
    apply results
    split
    · exact (start s).edit (.reconfigure hcfg)
    · next hsame => exact (start s).edit (.activate hcfg (by simpa using hsame))

theorem dioFlushBody_edits : (dioFlushBody s).EditsFrom s := by
  have counted := ((start s).edit (.setResult0 (resultWord s.host.din.length))).edit
    (.setResult1 (resultWord s.host.dout.length))
  exact counted.edit .flush

theorem samplesForBytesBody_edits (len : Nat) : (samplesForBytesBody len s).EditsFrom s := by
  unfold samplesForBytesBody
  split
  · exact raised (by decide)
  · exact ((start s).edit (.setResult0 _)).edit (.setResult1 _)

theorem modulateBody_edits : (modulateBody operand s).EditsFrom s := by
  unfold modulateBody
  split
  · exact raised (by decide)
  · next hvalid =>
    dsimp only
    split
    · exact raised (by decide)
    · next hroom =>
      have sent := (start s).edit (.transmit (operandBytes operand) (by simpa using hvalid))
      refine (sent.edit (.pushDout _ fun _ => ?_)).edit (.setResult0 _)
      simpa [txBytes_length, operandBytes_length, samplesFor] using hroom

theorem demodulateBody_edits : (demodulateBody operand s).EditsFrom s := by
  unfold demodulateBody
  split
  · exact raised (by decide)
  · next hvalid =>
    split
    · exact raised (by decide)
    · next hroom =>
      have received := (start s).edit (.receive operand (by simpa using hvalid))
      refine (received.edit (.pushDout _ fun hout => ?_)).edit (.setResult0 _)
      have hoperand : operand ≠ [] := by rintro rfl; exact hout rfl
      have hfits : s.host.dout.length + (operand.length / 4 + 1) ≤ s.params.doutCap := by simpa [hoperand] using hroom
      have hlen := rxSamples_length_le s.act operand s.rx
      rw [List.length_map]
      exact le_trans (Nat.add_le_add_left hlen _) hfits

theorem fecEncodeBody_edits : (fecEncodeBody operand s).EditsFrom s := by
  unfold fecEncodeBody
  split
  · exact raised (by decide)
  · split
    · exact raised (by decide)
    · next hroom =>
      refine (((start s).edit (.pushDout _ fun _ => ?_)).edit .countEncode).edit (.setResult0 _)
      simpa [operandBytes_length, rsPar] using hroom

theorem fecDecodeBody_edits : (fecDecodeBody operand s).EditsFrom s := by
  unfold fecDecodeBody
  split
  · exact raised (by decide)
  · split
    · exact raised (by decide)
    · next hroom =>
      split
      · exact ⟨(start s).edit .countFailure, by decide⟩
      · next cnt cw hdecode =>
        refine (((start s).edit (.countSuccess cnt)).edit (.pushDout _ fun _ => ?_)).edit (.setResult0 _)
        simpa [rsDecode_length hdecode, operandBytes_length] using hroom

theorem initializeBody_edits : (initializeBody operand s).EditsFrom s := by
  unfold initializeBody
  split
  · exact raised (by decide)
  · obtain ⟨hsk, hpk⟩ := xKeypair_lengths s.params (operandBytes operand)
    have hparams : s.emitTeardown.params = s.params := (State.Advances.refl s).emitTeardown.params
    exact (start s).emitTeardown.wipeInto (.initialized _ _ (hparams ▸ hsk) hpk)

theorem derivePubkeyBody_edits : (derivePubkeyBody operand s).EditsFrom s := by
  unfold derivePubkeyBody
  split
  · exact raised (by decide)
  · split
    · exact raised (by decide)
    · next hroom =>
      refine ((start s).edit (.pushDout _ fun _ => ?_)).edit (.setResult0 _)
      simpa [xKeypair_lengths, keyLen] using hroom

theorem startBody_edits (role : Role) : (startBody role operand s).EditsFrom s := by
  unfold startBody
  split
  · exact raised (by decide)
  · next hidle =>
    split
    · exact raised (by decide)
    · next hlen =>
      have hpeer : (operandBytes operand).length = 32 := by simpa [operandBytes_length, keyLen] using hlen
      have begun := (start s).edit (.session _ (.begun role (operandBytes operand) (by simpa using hidle) hpeer))
      have announced : s.Edits (s.beginHandshake role (operandBytes operand)) := begun.edit (.emit 1 _ (by decide))
      exact announced.hsApply rfl _

theorem hsReadBody_edits : (hsReadBody s).EditsFrom s := by
  unfold hsReadBody
  split
  · exact (start s).edit (.setResult0 _)
  · split
    · exact raised (by decide)
    · next hroom =>
      refine (((start s).edit (.pushDout _ fun _ => ?_)).edit (.setResult0 _)).edit (.session _ .collected)
      simpa using hroom

theorem hsWriteBody_edits : (hsWriteBody operand s).EditsFrom s := by
  unfold hsWriteBody
  split
  · exact raised (by decide)
  · next hstate =>
    split
    · exact raised (by decide)
    · split
      · exact (start s).hsFail 2
      · exact (start s).hsApply (by simpa using hstate) _

theorem tickBody_edits : (tickBody s).EditsFrom s := by
  unfold tickBody
  split
  · next hticking =>
    have ticked := (start s).edit (.session _ (.ticked (s.sess.hsTimer - 1) hticking.1))
    dsimp only
    split
    · exact ticked.hsFail 1
    · exact ticked.edit (.setResult0 _)
  · exact (start s).edit (.setResult0 _)

theorem stopKind_ne_noTerm : s.stopKind ≠ .noTerm := by
  unfold State.stopKind
  split <;> decide

theorem stopBody_edits : (stopBody s).EditsFrom s := by
  unfold stopBody
  split
  · exact start s
  · exact (start s).emitTeardown.terminate (stopKind_ne_noTerm s) (absurd rfl)

theorem consumeRemoteHangupBody_edits : (consumeRemoteHangupBody s).EditsFrom s :=
  ((start s).edit (.setResult0 _)).edit (.session _ (.flagged _ false _))

theorem txFrame_edits (hstate : s.sess.state = .established) (type : Byte) (payload : List Byte) :
    (s.txFrame type payload).EditsFrom s := by
  unfold State.txFrame
  dsimp only
  split
  · exact raised (by decide)
  · next hinvalid =>
    have hvalid : s.act.cfgValid = true := by simpa using hinvalid
    split
    · exact raised (by decide)
    · next hfec =>
      split
      · exact raised (by decide)
      · next hplain =>
        obtain ⟨keys, ct, henc, hct, hkeys⟩ | henc := encChecked_cases s.params
          ((type :: payload).length + s.params.aeadOverhead) (xEncrypt s.params s.sess.keys (type :: payload))
        · rw [henc]
          have keyed := (start s).edit (.session _ (.rekeyed keys hstate hkeys))
          show s.Edits _
          split
          · next hen =>
            refine (keyed.edit .countEncode).edit (.queueFrame _ hvalid ?_)
            simp [hen, rsK, hct] at hfec ⊢
            omega
          · next hen =>
            refine keyed.edit (.queueFrame _ hvalid ?_)
            simp [hen, frameBytesMax, hct] at hplain ⊢
            omega
        · rw [henc]
          exact (start s).fatal 4

theorem feedMicFrameBody_edits : (feedMicFrameBody operand s).EditsFrom s := by
  unfold feedMicFrameBody
  split
  · exact raised (by decide)
  · next hstate => exact txFrame_edits s (by simpa using hstate) _ _

theorem sendHangupBody_edits : (sendHangupBody s).EditsFrom s := by
  unfold sendHangupBody
  split
  · exact raised (by decide)
  · next hstate => exact (txFrame_edits s (by simpa using hstate) _ _).andThen fun _ => .session _ (.flagged true _ _)

theorem generateOutgoingFrameBody_edits : (generateOutgoingFrameBody s).EditsFrom s := by
  unfold generateOutgoingFrameBody
  split
  · exact (start s).clearResults
  · next f rest hq =>
    split
    · exact raised (by decide)
    · next hroom =>
      have taken := (start s).edit (.dropFrames rest _ ⟨[f], hq.symm⟩ List.suffix_rfl)
      exact ((taken.edit (.pushDout f fun _ => by simpa using hroom)).edit (.setResult0 _)).edit (.setResult1 1)

theorem pullSpeakerFrameBody_edits : (pullSpeakerFrameBody s).EditsFrom s := by
  unfold pullSpeakerFrameBody
  split
  · exact (start s).clearResults
  · next f rest hq =>
    split
    · exact raised (by decide)
    · next hroom =>
      have taken := (start s).edit (.dropFrames _ rest List.suffix_rfl ⟨[f], hq.symm⟩)
      exact ((taken.edit (.pushDout _ fun _ => by simpa using hroom)).edit (.setResult0 _)).edit (.setResult1 1)

variable {s}

theorem decryptFrame_edits {t : State} (h : s.Edits t) (hstate : t.sess.state = .established) (ct : List Byte)
    (hct : ct.length ≤ 255) : (t.decryptFrame ct).EditsFrom s := by
  unfold State.decryptFrame
  split
  · exact h.lostMalformed
  · obtain ⟨keys, pt, hdec, hpt, hkeys⟩ | ⟨keys, hdec, hkeys⟩ | hdec :=
      decChecked_cases t.params ct.length (xDecrypt t.params t.sess.keys ct)
    · rw [hdec]
      exact (h.edit (.session _ (.rekeyed keys hstate hkeys))).deliver pt (by omega)
    · rw [hdec]
      exact ((h.edit (.session _ (.rekeyed keys hstate hkeys))).lost 3).edit (.setResult0 4)
    · rw [hdec]
      exact h.fatal 4

theorem decodeFrame_edits {t : State} (h : s.Edits t) (hstate : t.sess.state = .established) (rb : List Byte) :
    (t.decodeFrame rb).EditsFrom s := by
  unfold State.decodeFrame
  split
  · split
    · exact h.lostMalformed
    · next hlen =>
      split
      · exact ((h.edit .countFailure).lost 2).edit (.setResult0 3)
      · next cnt cw _ =>
        have corrected := (h.edit (.countSuccess cnt)).edit (.setResult1 (resultWord cnt))
        have hct : (cw.take (rb.length - rsPar)).length ≤ 255 := by
          simp [rsPar, rsN] at hlen ⊢
          omega
        dsimp only
        split
        · exact decryptFrame_edits (corrected.edit (.emit 5 cnt (by decide))) hstate _ hct
        · exact decryptFrame_edits corrected hstate _ hct
  · split
    · exact h.lostMalformed
    · next hlen => exact decryptFrame_edits h hstate rb (by simpa [frameBytesMax] using hlen)

variable (s)

theorem handleIncomingFrameBody_edits : (handleIncomingFrameBody operand s).EditsFrom s := by
  unfold handleIncomingFrameBody
  split
  · exact raised (by decide)
  · next hstate =>
    split
    · exact raised (by decide)
    · next hinvalid =>
      have hvalid : s.act.cfgValid = true := by simpa using hinvalid
      have received := ((start s).edit (.realign hvalid)).edit (.receive operand hvalid)
      exact decodeFrame_edits (received.edit (.countFrames _)) (by simpa using hstate) _

end Bodies

/-! ## Every command -/

/-- The body of each command; those of formats Z and LI take no operand (R113, R118). -/
def bodyOf : Instr → List Entry → State → Verdict
  | .nop => fun _ => .success
  | .setConfig => fun _ => setConfigBody
  | .dioFlush => fun _ => dioFlushBody
  | .modemReset => fun _ => modemResetBody
  | .samplesForBytes len => fun _ => samplesForBytesBody len
  | .modulate _ => modulateBody
  | .demodulate _ => demodulateBody
  | .fecEncode _ => fecEncodeBody
  | .fecDecode _ => fecDecodeBody
  | .fecEncodedLen len => fun _ => fecEncodedLenBody len
  | .fecDataLen len => fun _ => fecDataLenBody len
  | .initializeSession _ => initializeBody
  | .startServer _ => startBody .server
  | .startClient _ => startBody .client
  | .stopSession => fun _ => stopBody
  | .derivePubkey _ => derivePubkeyBody
  | .sendHangup => fun _ => sendHangupBody
  | .consumeRemoteHangup => fun _ => consumeRemoteHangupBody
  | .hsRead => fun _ => hsReadBody
  | .hsWrite _ => hsWriteBody
  | .tick => fun _ => tickBody
  | .feedMicFrame _ => feedMicFrameBody
  | .handleIncomingFrame _ => handleIncomingFrameBody
  | .generateOutgoingFrame => fun _ => generateOutgoingFrameBody
  | .pullSpeakerFrame => fun _ => pullSpeakerFrameBody

/-- Every command is the runner of its format on its body (R111, R118). -/
theorem exec_eq (i : Instr) (s : State) :
    exec i s = if i.format = .LD then runLD i.len (bodyOf i) s else runZ (bodyOf i []) s := by
  cases i <;> rfl

theorem bodyOf_edits (i : Instr) (operand : List Entry) (s : State) : (bodyOf i operand s).EditsFrom s := by
  cases i with
  | nop => exact .start s
  | setConfig => exact setConfigBody_edits s
  | dioFlush => exact dioFlushBody_edits s
  | modemReset => exact (State.Edits.start s).edit .modemReset
  | samplesForBytes len => exact samplesForBytesBody_edits s len
  | modulate => exact modulateBody_edits s operand
  | demodulate => exact demodulateBody_edits s operand
  | fecEncode => exact fecEncodeBody_edits s operand
  | fecDecode => exact fecDecodeBody_edits s operand
  | fecEncodedLen => exact (State.Edits.start s).edit (.setResult0 _)
  | fecDataLen => exact (State.Edits.start s).edit (.setResult0 _)
  | initializeSession => exact initializeBody_edits s operand
  | startServer => exact startBody_edits s operand .server
  | startClient => exact startBody_edits s operand .client
  | stopSession => exact stopBody_edits s
  | derivePubkey => exact derivePubkeyBody_edits s operand
  | sendHangup => exact sendHangupBody_edits s
  | consumeRemoteHangup => exact consumeRemoteHangupBody_edits s
  | hsRead => exact hsReadBody_edits s
  | hsWrite => exact hsWriteBody_edits s operand
  | tick => exact tickBody_edits s
  | feedMicFrame => exact feedMicFrameBody_edits s operand
  | handleIncomingFrame => exact handleIncomingFrameBody_edits s operand
  | generateOutgoingFrame => exact generateOutgoingFrameBody_edits s
  | pullSpeakerFrame => exact pullSpeakerFrameBody_edits s

/-- A command makes edits and ends with success or with an error, which is not that of an illegal word (R19, R118). -/
def EndsAfterEdits (s t : State) : Prop :=
  ∃ u, s.Edits u ∧ (t = u.endSuccess ∨ ∃ e d, e ≠ CmdError.illegalCommand ∧ t = u.takeError e d)

theorem finish_endsAfterEdits {s pre : State} {v : Verdict} (hpre : s.Edits pre) (hv : v.EditsFrom pre) :
    EndsAfterEdits s (v.finish pre) := by
  cases v with
  | success t => exact ⟨t, hpre.trans hv, .inl rfl⟩
  | raised e d => exact ⟨pre, hpre, .inr ⟨e, d, hv, rfl⟩⟩
  | reported t e d => exact ⟨t, hpre.trans hv.1, .inr ⟨e, d, hv.2, rfl⟩⟩

/-- What every command does, in one statement (R118). -/
theorem exec_endsAfterEdits {i : Instr} {s t : State} (h : exec i s = .next t) : EndsAfterEdits s t := by
  rw [exec_eq] at h
  split at h
  · obtain ⟨-, hrun⟩ | ⟨-, hrun⟩ := runLD_cases i.len (bodyOf i) s
    · obtain rfl : _ = t := by simpa [hrun] using h
      exact ⟨s, .start s, .inr ⟨_, _, by decide, rfl⟩⟩
    · obtain rfl : _ = t := by simpa [hrun] using h
      exact finish_endsAfterEdits ((State.Edits.start s).edit .takeOperand).clearResults (bodyOf_edits _ _ _)
  · obtain rfl : _ = t := by simpa [runZ_eq] using h
    exact finish_endsAfterEdits (State.Edits.start s).clearResults (bodyOf_edits _ _ _)

/-! ## `ERR` -/

/-- No edit touches `CMD_ERR` (R366). -/
theorem State.Edit.cmdErr {s t : State} (h : s.Edit t) : t.host.cmdErr = s.host.cmdErr := by
  cases h <;> rfl

theorem CmdError.code_mem {e : CmdError} (he : e ≠ .illegalCommand) :
    e.code.toNat ∈ [0x01, 0x02, 0x03, 0x04, 0x05, 0x06, 0x11, 0x12, 0x13, 0x14] := by
  cases e with
  | illegalCommand => exact absurd rfl he
  | _ => decide

/-- Settles O56: the edits leave `CMD_ERR` alone, and the end of the command writes `ERR`. -/
theorem everyCommandWritesErr : Obligations.EveryCommandWritesErr := by
  intro i s t h
  obtain ⟨u, hedits, rfl | ⟨e, d, he, rfl⟩⟩ := exec_endsAfterEdits h
  · have kept : u.host.cmdErr = s.host.cmdErr :=
      hedits.keep (P := fun u => u.host.cmdErr = s.host.cmdErr) (fun he hs => he.cmdErr.trans hs) rfl
    exact .inl ⟨rfl, rfl, kept⟩
  · exact .inr ⟨CmdError.code_mem he, rfl⟩

end Sys2Proof.Machine
end

section
/-! The reset state (spec/10_state.md rules R67, R70, R390) and the induction over the step: what the reset state has, every
edit keeps and every access keeps, every step keeps. -/

namespace Sys2Proof.Machine

/-! ## The reset state -/

@[simp] theorem Tones.get_all {α : Type} (a : α) (k : Symbol) : (Tones.all a).get k = a := by
  unfold Tones.get
  split <;> rfl

theorem secretsZero_resetWith (p : Params) : SecretsZero (State.resetWith p) where
  sk := rfl
  pk := rfl
  peerKey := rfl
  hsctx := rfl
  keys := rfl
  keypair := rfl

@[simp] theorem State.resetWith_host (p : Params) : (State.resetWith p).host = .reset := rfl
@[simp] theorem State.resetWith_cfg (p : Params) : (State.resetWith p).cfg = .reset := rfl
@[simp] theorem State.resetWith_act (p : Params) : (State.resetWith p).act = .reset := rfl
@[simp] theorem State.resetWith_tx (p : Params) : (State.resetWith p).tx = .reset := rfl
@[simp] theorem State.resetWith_rx (p : Params) : (State.resetWith p).rx = .reset := rfl
@[simp] theorem State.resetWith_fec (p : Params) : (State.resetWith p).fec = .reset := rfl
@[simp] theorem State.resetWith_sess (p : Params) : (State.resetWith p).sess = .reset p := rfl
@[simp] theorem State.resetWith_pipe (p : Params) : (State.resetWith p).pipe = .reset := rfl
@[simp] theorem State.resetWith_queues (p : Params) : (State.resetWith p).queues = .reset := rfl

theorem statusWord_resetWith (p : Params) : (State.resetWith p).statusWord = 0 := by
  simp [State.statusWord, HostIf.reset, ActiveCfg.reset, ModemRx.reset, Session.reset, bit, SessState.code, roleCode,
    TermKind.code]

theorem intStatus_resetWith (p : Params) : (State.resetWith p).intStatus = 0 := by
  simp [State.intStatus, State.intLevels, HostIf.intSticky, HostIf.reset, Session.reset, Queues.reset, bit]

theorem irq_resetWith (p : Params) : (State.resetWith p).irq = false := by simp [State.irq, intStatus_resetWith]

/-- Settles O6: the step is the hardware reset, and each register's value is read off the reset state. -/
theorem resetGivesEveryRegisterItsValue : Obligations.ResetGivesEveryRegisterItsValue := by
  refine ⟨fun s rest hpending => ?_, fun p => ?_⟩
  · obtain ⟨hidle, -⟩ | ⟨a, rest', hfirst, hserve⟩ := step_cases s
    · simp [hidle] at hpending
    · obtain ⟨rfl, rfl⟩ : a = .reset ∧ rest' = rest := by simpa [hfirst] using hpending
      exact hserve
  · simp [intStatus_resetWith, irq_resetWith, statusWord_resetWith, secretsZero_resetWith, HostIf.reset, ShadowCfg.reset,
      ActiveCfg.reset, ModemTx.reset, ModemRx.reset, Correlator.zero, FecStats.reset, Session.reset, PipeStats.reset,
      Queues.reset, ActiveCfg.flagsWord, ModemRx.statusWord, ModemRx.windowWord, bit]

theorem withinCapacity_resetWith {p : Params} (hp : p.Ok) : WithinCapacity (State.resetWith p) where
  params := hp
  din := Nat.zero_le _
  dout := Nat.zero_le _
  txq := Nat.zero_le _
  rxq := Nat.zero_le _
  evq := Nat.zero_le _

theorem blobSizes_resetWith (p : Params) : BlobSizes (State.resetWith p) where
  sk := zeros_length _
  pk := zeros_length _
  peerKey := zeros_length _
  hsctx := zeros_length _
  keys := zeros_length _
  mailbox := ⟨nofun, fun h => absurd rfl h⟩
  message := Nat.zero_le _

theorem sessionConsistent_resetWith (p : Params) : SessionConsistent (State.resetWith p) where
  kind := ⟨nofun, fun h => absurd rfl h⟩
  notStopping := nofun
  reason := fun h => absurd rfl h
  role := nofun
  secrets := fun _ => secretsZero_resetWith p
  handshake := fun _ => ⟨rfl, rfl⟩

theorem modemConsistent_resetWith (p : Params) : ModemConsistent (State.resetWith p) := nofun

theorem unconfiguredIdle_resetWith (p : Params) : UnconfiguredIdle (State.resetWith p) := fun _ => ⟨rfl, rfl, rfl⟩

theorem accumulatorsBounded_resetWith (p : Params) : AccumulatorsBounded (State.resetWith p) := by
  intro k
  have hzero : (State.resetWith p).rx.cor.get k = .zero := Tones.get_all _ k
  rw [hzero]
  constructor <;> exact Nat.zero_le _

theorem fecStatsConsistent_resetWith (p : Params) : FecStatsConsistent (State.resetWith p) := fun _ => le_refl 0

theorem frameSizes_resetWith (p : Params) : FrameSizes (State.resetWith p) := ⟨nofun, nofun⟩

theorem eventCodes_resetWith (p : Params) : EventCodes (State.resetWith p) := nofun

theorem interfaceIdle_resetWith (p : Params) : InterfaceIdle (State.resetWith p) :=
  ⟨rfl, BitVec.zero_and⟩

/-- Settles O7, from the ten lemmas above. -/
theorem invariantsHoldAtReset : Obligations.InvariantsHoldAtReset := fun p hp =>
  ⟨withinCapacity_resetWith hp, blobSizes_resetWith p, sessionConsistent_resetWith p, modemConsistent_resetWith p,
    unconfiguredIdle_resetWith p, accumulatorsBounded_resetWith p, fecStatsConsistent_resetWith p,
    frameSizes_resetWith p, eventCodes_resetWith p, interfaceIdle_resetWith p⟩

/-! ## The induction over the step -/

/-- `P` is kept by everything a step is made of: the accesses themselves, the edits of a command and its end. -/
structure KeptByParts (P : State → Prop) : Prop where
  /-- The fields of the model's own, `pending` and `rdata`, play no part (log 3, log 5). -/
  access : ∀ {s : State} (pending : List BusAccess) (rdata : Option Word), P s →
    P { s with pending := pending, rdata := rdata }
  readEffect : ∀ {s : State} (off : Nat), P s → P (s.readEffect off)
  regWrite : ∀ {s : State} (off : Nat) (v : Word), P s → P (s.regWrite off v)
  overrun : ∀ {s : State}, P s → P { s with host := { s.host with cmdOverrun := true } }
  edit : ∀ {s t : State}, s.Edit t → P s → P t
  endSuccess : ∀ {s : State}, P s → P s.endSuccess
  takeError : ∀ {s : State} (e : CmdError) (d : Byte), P s → P (s.takeError e d)
  reset : ∀ {s : State}, P s → P (State.resetWith s.params)

namespace KeptByParts

variable {P : State → Prop}

theorem exec (h : KeptByParts P) {i : Instr} {s t : State} (hs : P s) (hexec : exec i s = .next t) : P t := by
  obtain ⟨u, hedits, rfl | ⟨e, d, -, rfl⟩⟩ := exec_endsAfterEdits hexec
  · exact h.endSuccess (hedits.keep h.edit hs)
  · exact h.takeError e d (hedits.keep h.edit hs)

theorem runCommand (h : KeptByParts P) {w : Word} {s t : State} (hs : P s) (hrun : runCommand w s = .next t) : P t := by
  obtain ⟨-, hcmd⟩ | ⟨-, i, -, hcmd⟩ | ⟨-, e, -, hcmd⟩ := runCommand_cases w s
  · obtain rfl : _ = t := by simpa [hcmd] using hrun
    exact h.overrun hs
  · exact h.exec hs (hcmd ▸ hrun)
  · obtain rfl : _ = t := by simpa [hcmd] using hrun
    exact h.takeError _ _ hs

theorem serveAccess (h : KeptByParts P) {a : BusAccess} {s t : State} (hs : P s) (hserve : serveAccess a s = .next t) :
    P t := by
  obtain ⟨off, -, rfl⟩ | ⟨off, v, -, -, rfl⟩ | ⟨v, -, hrun⟩ | ⟨-, rfl⟩ := serveAccess_cases hserve
  · exact h.access _ _ (h.readEffect off hs)
  · exact h.regWrite off v hs
  · exact h.runCommand hs hrun
  · exact h.access s.pending none (h.reset hs)

/-- What every part keeps, every step keeps (R101). -/
theorem step (h : KeptByParts P) {s t : State} (hs : P s) (hstep : step s = .next t) : P t := by
  obtain ⟨-, hidle⟩ | ⟨a, rest, -, hserve⟩ := step_cases s
  · obtain rfl : s = t := by simpa [hidle] using hstep
    exact hs
  · exact h.serveAccess (h.access rest none hs) (hserve ▸ hstep)

end KeptByParts

/-- `P` looks only at what `view` shows of a state. -/
def SeesOnly {α : Type} (view : State → α) (P : State → Prop) : Prop :=
  ∀ {s t : State}, view t = view s → P s → P t

/-- Of a view that shows neither the host interface, nor the shadow configuration, nor the event queue, the accesses
change nothing: the edits and the reset are left to look at. -/
theorem KeptByParts.of_view {α : Type} {P : State → Prop} {view : State → α} (hview : SeesOnly view P)
    (hblind : ∀ (s : State) (pending : List BusAccess) (rdata : Option Word) (host : HostIf) (cfg : ShadowCfg)
        (evq : List Word),
      view { s with
        pending := pending, rdata := rdata, host := host, cfg := cfg, queues := { s.queues with evq := evq } } = view s)
    (hedit : ∀ {s t : State}, s.Edit t → P s → P t) (hreset : ∀ {s : State}, P s → P (State.resetWith s.params)) :
    KeptByParts P where
  access := fun {s} pending rdata => hview (hblind s pending rdata s.host s.cfg s.queues.evq)
  readEffect := fun {s} off => hview (by
    obtain ⟨host, evq, heq⟩ := readEffect_eq s off
    rw [heq]
    exact hblind s s.pending s.rdata host s.cfg evq)
  regWrite := fun {s} off v => hview (by
    obtain ⟨host, cfg, heq⟩ := regWrite_eq s off v
    rw [heq]
    exact hblind s s.pending s.rdata host cfg s.queues.evq)
  overrun := fun {s} => hview (hblind s s.pending s.rdata _ s.cfg s.queues.evq)
  edit := hedit
  endSuccess := fun {s} => hview (hblind s s.pending s.rdata _ s.cfg s.queues.evq)
  takeError := fun {s} _ _ => hview (hblind s s.pending s.rdata _ s.cfg s.queues.evq)
  reset := hreset

end Sys2Proof.Machine
end

section
/-! The session registers under every step: their consistency with `STATE` and the sizes of the blobs (spec/10_state.md rules
R55 to R57, R67). -/

namespace Sys2Proof.Machine

/-- What the session invariants look at. -/
def State.sessionView (s : State) : Params × Session := (s.params, s.sess)

/-- An edit shows in the session registers only as one of the session's own moves, and the parameters stay. -/
theorem State.Edit.sessionView {s t : State} (h : s.Edit t) :
    t.sessionView = s.sessionView ∨ ∃ x, s.sess.Move s.params x ∧ t.sessionView = (s.params, x) := by
  cases h with
  | session x hmove => exact .inr ⟨x, hmove, rfl⟩
  | _ => exact .inl rfl

/-- For an invariant of the session registers, the session's own moves and the reset are left to look at. -/
theorem KeptByParts.of_sessionMoves {P : State → Prop} (hview : SeesOnly State.sessionView P)
    (hmoves : ∀ {s : State} {x : Session}, s.sess.Move s.params x → P s → P { s with sess := x })
    (hreset : ∀ {s : State}, P s → P (State.resetWith s.params)) : KeptByParts P := by
  refine .of_view hview (fun _ _ _ _ _ _ => rfl) (fun {s t} he hs => ?_) hreset
  obtain hsame | ⟨x, hmove, hx⟩ := he.sessionView
  · exact hview hsame hs
  · exact hview (s := { s with sess := x }) hx (hmoves hmove hs)

/-! ## The mailbox -/

/-- Posting a message leaves every other session register as it was (R273). -/
theorem postMessage_eq (x : Session) (out : Option (List Byte)) :
    ∃ m v, x.postMessage out = { x with hsOut := m, hsOutValid := v } := by
  cases out with
  | none => exact ⟨_, _, rfl⟩
  | some m => exact ⟨m, true, rfl⟩

/-- The mailbox holds a message of `1 .. HS_MSG_MAX` bytes exactly when `HS_OUT_VALID = 1` (R57). -/
def Session.MailboxOk (p : Params) (x : Session) : Prop :=
  (x.hsOutValid = true ↔ x.hsOut ≠ []) ∧ x.hsOut.length ≤ p.hsMsgMax

theorem postMessage_mailboxOk {p : Params} {x : Session} {out : Option (List Byte)} (hx : x.MailboxOk p)
    (hout : hsOutOk p out = true) : (x.postMessage out).MailboxOk p := by
  cases out with
  | none => exact hx
  | some m =>
    obtain ⟨hpos, hmax⟩ : 1 ≤ m.length ∧ m.length ≤ p.hsMsgMax := by simpa [hsOutOk] using hout
    exact ⟨iff_of_true rfl (List.ne_nil_of_length_pos hpos), hmax⟩

theorem mailboxOk_empty {p : Params} {x : Session} (hout : x.hsOut = []) (hvalid : x.hsOutValid = false) :
    x.MailboxOk p := by
  simp [Session.MailboxOk, hout, hvalid]

/-! ## Blob sizes -/

theorem BlobSizes.mailboxOk {s : State} (h : BlobSizes s) : s.sess.MailboxOk s.params := ⟨h.mailbox, h.message⟩

theorem blobSizes_seesOnly : SeesOnly State.sessionView BlobSizes := by
  intro s t hview h
  obtain ⟨hparams, hsess⟩ : t.params = s.params ∧ t.sess = s.sess := by simpa [State.sessionView] using hview
  constructor <;> rw [hsess]
  case pk => exact h.pk
  case peerKey => exact h.peerKey
  case mailbox => exact h.mailbox
  all_goals rw [hparams]
  case sk => exact h.sk
  case hsctx => exact h.hsctx
  case keys => exact h.keys
  case message => exact h.message

/-- The wiped blobs have their sizes (R272). -/
theorem blobSizes_wipe (s : State) : BlobSizes { s with sess := s.sess.wipe s.params } where
  sk := zeros_length _
  pk := zeros_length _
  peerKey := zeros_length _
  hsctx := zeros_length _
  keys := zeros_length _
  mailbox := (mailboxOk_empty (p := s.params) (x := s.sess.wipe s.params) rfl rfl).1
  message := Nat.zero_le _

/-- A message posted into a session whose blobs have their sizes. -/
theorem BlobSizes.postMessage {s : State} (h : BlobSizes s) {out : Option (List Byte)}
    (hout : hsOutOk s.params out = true) : BlobSizes { s with sess := s.sess.postMessage out } := by
  obtain ⟨hmailbox, hmessage⟩ := postMessage_mailboxOk h.mailboxOk hout
  obtain ⟨m, v, heq⟩ := postMessage_eq s.sess out
  rw [heq] at hmailbox hmessage ⊢
  exact { h with
    mailbox := hmailbox
    message := hmessage }

theorem BlobSizes.move {s : State} {x : Session} (hmove : s.sess.Move s.params x) (h : BlobSizes s) :
    BlobSizes { s with sess := x } := by
  have wiped := blobSizes_wipe s
  cases hmove with
  | terminated kind reason => exact { wiped with }
  | initialized sk pk hsk hpk =>
    exact { wiped with
      sk := hsk
      pk := hpk }
  | begun role peer hidle hpeer =>
    exact { h with
      peerKey := hpeer
      mailbox := wiped.mailbox
      message := wiped.message }
  | continued ctx out timer hstate hctx hout =>
    have kept : BlobSizes { s with sess := { s.sess with hsctx := ctx } } := { h with hsctx := hctx }
    exact { kept.postMessage hout with }
  | established keys out hstate hkeys hout =>
    have kept : BlobSizes { s with sess := { s.sess with
        keys := keys, hsctx := zeros s.params.hsctxBytes, hsTimer := 0 } } :=
      { h with
        keys := hkeys
        hsctx := zeros_length _ }
    exact { kept.postMessage hout with }
  | collected =>
    exact { h with
      mailbox := wiped.mailbox
      message := wiped.message }
  | ticked timer => exact { h with }
  | flagged localSent pending latch => exact { h with }
  | rekeyed keys hstate hkeys => exact { h with keys := hkeys }

/-- Settles O11, move by move of the session registers. -/
theorem stepKeepsBlobSizes : Obligations.StepKeepsBlobSizes := by
  intro s t hs hstep
  exact (KeptByParts.of_sessionMoves blobSizes_seesOnly BlobSizes.move fun _ => blobSizes_resetWith _).step hs hstep

/-! ## Consistency with `STATE` -/

theorem SecretsZero.of_view {s t : State} (hview : t.sessionView = s.sessionView) (h : SecretsZero s) : SecretsZero t := by
  obtain ⟨hparams, hsess⟩ : t.params = s.params ∧ t.sess = s.sess := by simpa [State.sessionView] using hview
  constructor <;> rw [hsess]
  case pk => exact h.pk
  case peerKey => exact h.peerKey
  case keypair => exact h.keypair
  all_goals rw [hparams]
  case sk => exact h.sk
  case hsctx => exact h.hsctx
  case keys => exact h.keys

theorem sessionConsistent_seesOnly : SeesOnly State.sessionView SessionConsistent := by
  intro s t hview h
  obtain ⟨hparams, hsess⟩ : t.params = s.params ∧ t.sess = s.sess := by simpa [State.sessionView] using hview
  constructor <;> rw [hsess]
  case kind => exact h.kind
  case notStopping => exact h.notStopping
  case reason => exact h.reason
  case role => exact h.role
  case secrets => exact fun hstate => (h.secrets hstate).of_view hview
  case handshake => rw [hparams]; exact h.handshake

theorem secretsZero_wipe (s : State) : SecretsZero { s with sess := s.sess.wipe s.params } where
  sk := rfl
  pk := rfl
  peerKey := rfl
  hsctx := rfl
  keys := rfl
  keypair := rfl

/-- Only a terminated session has a kind of termination, and only such a kind a reason (R67 (2)). -/
theorem SessionConsistent.noTerm {s : State} (h : SessionConsistent s) (hstate : s.sess.state ≠ .terminated) :
    s.sess.termKind = .noTerm ∧ s.sess.termReason = 0 := by
  have hkind : s.sess.termKind = .noTerm := by
    by_contra hne
    exact hstate (h.kind.mpr hne)
  refine ⟨hkind, ?_⟩
  by_contra hne
  exact absurd (h.reason hne) (by simp [hkind])

/-- A session that is `Handshaking` or `Established` owes nothing but that it is not over, and, once `Established`, that
the handshake's registers are cleared. -/
theorem sessionConsistent_live {s : State} (hstate : s.sess.state = .handshaking ∨ s.sess.state = .established)
    (hkind : s.sess.termKind = .noTerm ∧ s.sess.termReason = 0)
    (hestablished : s.sess.state = .established → s.sess.hsTimer = 0 ∧ s.sess.hsctx = zeros s.params.hsctxBytes) :
    SessionConsistent s where
  kind := by rcases hstate with hs | hs <;> simp [hs, hkind.1]
  notStopping := by rcases hstate with hs | hs <;> simp [hs]
  reason := fun h => absurd hkind.2 h
  role := fun _ => hstate
  secrets := by rcases hstate with hs | hs <;> simp [hs]
  handshake := fun hne => hestablished (hstate.resolve_left hne)

theorem SessionConsistent.move {s : State} {x : Session} (hmove : s.sess.Move s.params x) (h : SessionConsistent s) :
    SessionConsistent { s with sess := x } := by
  cases hmove with
  | terminated kind reason hkind hreason =>
    exact {
      kind := iff_of_true rfl hkind
      notStopping := nofun
      reason := hreason
      role := nofun
      secrets := fun _ => { secretsZero_wipe s with }
      handshake := fun _ => ⟨rfl, rfl⟩ }
  | initialized sk pk =>
    exact {
      kind := iff_of_false nofun (absurd rfl)
      notStopping := nofun
      reason := fun hne => absurd rfl hne
      role := nofun
      secrets := nofun
      handshake := fun _ => ⟨rfl, rfl⟩ }
  | begun role peer hidle => exact sessionConsistent_live (.inl rfl) (h.noTerm (by simp [hidle])) nofun
  | continued ctx out timer hstate =>
    obtain ⟨m, v, heq⟩ := postMessage_eq { s.sess with hsctx := ctx } out
    rw [heq]
    exact sessionConsistent_live (.inl hstate) (h.noTerm (by simp [hstate])) fun he => absurd (hstate.symm.trans he) nofun
  | established keys out hstate =>
    obtain ⟨m, v, heq⟩ := postMessage_eq { s.sess with
      keys := keys, hsctx := zeros s.params.hsctxBytes, hsTimer := 0 } out
    rw [heq]
    exact sessionConsistent_live (.inr rfl) (h.noTerm (by simp [hstate])) fun _ => ⟨rfl, rfl⟩
  | collected => exact { h with secrets := fun hstate => { h.secrets hstate with } }
  | ticked timer hstate =>
    exact sessionConsistent_live (.inl hstate) (h.noTerm (by simp [hstate])) fun he => absurd (hstate.symm.trans he) nofun
  | flagged localSent pending latch => exact { h with secrets := fun hstate => { h.secrets hstate with } }
  | rekeyed keys hstate =>
    exact sessionConsistent_live (.inr hstate) (h.noTerm (by simp [hstate])) fun _ => h.handshake (by simp [hstate])

/-- Settles O9, move by move of the session registers. -/
theorem stepKeepsSecretsZeroOutsideASession : Obligations.StepKeepsSecretsZeroOutsideASession := by
  intro s t hs hstep
  have parts : KeptByParts SessionConsistent :=
    .of_sessionMoves sessionConsistent_seesOnly SessionConsistent.move fun _ => sessionConsistent_resetWith _
  exact parts.step hs hstep

end Sys2Proof.Machine
end

section
/-! The FIFOs, the queues, the interface and the codec's statistics under every step (spec/10_state.md rules R36, R67,
spec/20_memory.md rules R92, R93, spec/42_fec.md rule R252). -/

namespace Sys2Proof.Machine

/-! ## Capacities -/

theorem popDout_within {s : State} (h : WithinCapacity s) : WithinCapacity s.popDout := by
  unfold State.popDout
  split
  · exact { h with }
  · next hdout =>
    have hle := h.dout
    rw [hdout] at hle
    exact { h with dout := Nat.le_of_succ_le hle }

theorem popEvent_within {s : State} (h : WithinCapacity s) : WithinCapacity s.popEvent := by
  unfold State.popEvent
  split
  · exact { h with }
  · next hevq =>
    have hle := h.evq
    rw [hevq] at hle
    exact { h with evq := Nat.le_of_succ_le hle }

theorem pushDin_within {s : State} (v : Word) (h : WithinCapacity s) : WithinCapacity (s.pushDin v) := by
  unfold State.pushDin
  split
  · next hroom => exact { h with din := by simpa using hroom }
  · exact { h with }

/-- A drop-oldest queue never grows past its depth, which R8 makes at least 1 (R315, R316). -/
theorem WithinCapacity.emit {s : State} (h : WithinCapacity s) (code arg : Nat) : WithinCapacity (s.emit code arg) := by
  obtain ⟨-, -, -, -, hdepth, -⟩ := h.params
  exact { h with evq := pushDropOldest_length_le _ _ _ h.evq hdepth }

theorem WithinCapacity.queueFrame {s : State} (h : WithinCapacity s) (bytes : List Byte) :
    WithinCapacity (s.queueFrame bytes) := by
  obtain ⟨-, -, hdepth, -⟩ := h.params
  exact { h with txq := pushDropOldest_length_le _ _ _ h.txq hdepth }

theorem WithinCapacity.pushRxq {s : State} (h : WithinCapacity s) (payload : List Byte) :
    WithinCapacity (s.pushRxq payload) := by
  obtain ⟨-, -, -, hdepth, -⟩ := h.params
  exact { h with rxq := pushDropOldest_length_le _ _ _ h.rxq hdepth }

theorem WithinCapacity.edit {s t : State} (he : s.Edit t) (h : WithinCapacity s) : WithinCapacity t := by
  cases he with
  | takeOperand => exact { h with din := Nat.zero_le _ }
  | flush =>
    exact { h with
      din := Nat.zero_le _
      dout := Nat.zero_le _ }
  | pushDout es hfits =>
    have hdout : (s.host.dout ++ es).length ≤ s.params.doutCap := by
      by_cases hes : es = []
      · simpa [hes] using h.dout
      · simpa using hfits hes
    exact { h with dout := hdout }
  | emit code arg => exact h.emit code arg
  | queueFrame bytes => exact h.queueFrame bytes
  | pushRxq payload => exact h.pushRxq payload
  | dropFrames tx rx htx hrx =>
    exact { h with
      txq := htx.length_le.trans h.txq
      rxq := hrx.length_le.trans h.rxq }
  | _ => exact { h with }

theorem withinCapacity_keptByParts : KeptByParts WithinCapacity where
  access := fun _ _ h => { h with }
  readEffect := fun off h => by
    unfold State.readEffect
    split
    · exact popDout_within h
    · exact popEvent_within h
    · exact h
  regWrite := fun off v h => by
    unfold State.regWrite
    split
    · exact pushDin_within v h
    all_goals exact { h with }
  overrun := fun h => { h with }
  edit := WithinCapacity.edit
  endSuccess := fun h => { h with }
  takeError := fun _ _ h => { h with }
  reset := fun h => withinCapacity_resetWith h.params

/-- Settles O10: every push tests for room or drops the oldest element. -/
theorem stepKeepsEveryQueueWithinCapacity : Obligations.StepKeepsEveryQueueWithinCapacity := fun _ _ =>
  withinCapacity_keptByParts.step

/-! ## The interface -/

theorem InterfaceIdle.edit {s t : State} (he : s.Edit t) (h : InterfaceIdle s) : InterfaceIdle t := by
  cases he <;> exact h

theorem interfaceIdle_keptByParts : KeptByParts InterfaceIdle where
  access := fun _ _ h => h
  readEffect := fun off h => by
    unfold State.readEffect State.popDout State.popEvent
    split
    · split <;> exact h
    · split <;> exact h
    · exact h
  regWrite := fun off v h => by
    unfold State.regWrite State.pushDin
    split
    · split <;> exact h
    · exact h
    · exact ⟨h.1, by simp [BitVec.and_assoc]⟩
    all_goals exact h
  overrun := fun h => h
  edit := InterfaceIdle.edit
  endSuccess := fun h => h
  takeError := fun _ _ h => h
  reset := fun _ => interfaceIdle_resetWith _

/-! ## Events -/

theorem EventCodes.emit {s : State} (h : EventCodes s) {code : Nat} (arg : Nat) (hcode : 1 ≤ code ∧ code ≤ 8) :
    EventCodes (s.emit code arg) := by
  intro w hw
  obtain rfl | hold := mem_pushDropOldest hw
  · rw [eventWord_code, BitVec.toNat_ofNat, Nat.mod_eq_of_lt (by omega)]
    exact hcode
  · exact h w hold

theorem EventCodes.edit {s t : State} (he : s.Edit t) (h : EventCodes s) : EventCodes t := by
  cases he with
  | emit code arg hcode => exact h.emit arg hcode
  | _ => exact h

theorem eventCodes_keptByParts : KeptByParts EventCodes where
  access := fun _ _ h => h
  readEffect := fun off h => by
    unfold State.readEffect State.popDout State.popEvent
    split
    · split <;> exact h
    · split
      · exact h
      · next hevq => exact fun w hw => h w (hevq ▸ List.mem_cons_of_mem _ hw)
    · exact h
  regWrite := fun off v h => by
    obtain ⟨host, cfg, heq⟩ := regWrite_eq _ off v
    rw [heq]
    exact h
  overrun := fun h => h
  edit := EventCodes.edit
  endSuccess := fun h => h
  takeError := fun _ _ h => h
  reset := fun _ => eventCodes_resetWith _

/-! ## The codec's statistics -/

/-- A failed decode is counted twice, once on each side of R252. -/
theorem FecStatsConsistent.countFailure {s : State} (h : FecStatsConsistent s) :
    FecStatsConsistent s.countDecode.countUncorrectable := by
  intro hbelow
  simp only [State.countUncorrectable_fec, State.countDecode_fec, satInc_toNat, cntMax] at hbelow ⊢
  have := h (by rw [cntMax]; omega)
  omega

/-- So is a clean decode; a corrected one counts on the left of R252 alone. -/
theorem FecStatsConsistent.countSuccess {s : State} (h : FecStatsConsistent s) (cnt : Nat) :
    FecStatsConsistent (s.countDecode.countCorrected cnt) := by
  intro hbelow
  simp only [State.countCorrected_fec, State.countDecode_fec, satInc_toNat, cntMax] at hbelow ⊢
  have := h (by rw [cntMax]; omega)
  split
  · rw [satInc_toNat]; omega
  · omega

theorem FecStatsConsistent.edit {s t : State} (he : s.Edit t) (h : FecStatsConsistent s) : FecStatsConsistent t := by
  cases he with
  | countFailure => exact h.countFailure
  | countSuccess cnt => exact h.countSuccess cnt
  | _ => exact h

theorem fecStatsConsistent_keptByParts : KeptByParts FecStatsConsistent := by
  refine .of_view (view := State.fec) (fun hview h => ?_) (fun _ _ _ _ _ _ => rfl) FecStatsConsistent.edit
    (fun _ => fecStatsConsistent_resetWith _)
  unfold FecStatsConsistent
  rw [hview]
  exact h

/-- Settles O14: each of the three is kept by every part of a step. -/
theorem stepKeepsEventsAndStatisticsSound : Obligations.StepKeepsEventsAndStatisticsSound :=
  fun _ _ hidle hcodes hstats hstep =>
    ⟨interfaceIdle_keptByParts.step hidle hstep, eventCodes_keptByParts.step hcodes hstep,
      fecStatsConsistent_keptByParts.step hstats hstep⟩

end Sys2Proof.Machine
end

section
/-! The active configuration and the symbol clock under every step (spec/10_state.md rule R67 (3), spec/40_config.md rules
R143 to R146, spec/41_modem.md rules R173, R174, R177). -/

namespace Sys2Proof.Machine

/-! ## The timing correction is at most a quarter of the window -/

theorem pairEnergy_nonneg (i q : Int) : 0 ≤ pairEnergy i q := add_nonneg (mul_self_nonneg _) (mul_self_nonneg _)

/-- The timing error is the half-window scaled by a proper fraction (R173). -/
theorem timingError_natAbs_le (trackEn : Bool) (half : Nat) {ea eb : Int} (ha : 0 ≤ ea) (hb : 0 ≤ eb) :
    (timingError trackEn half ea eb).natAbs ≤ half := by
  unfold timingError
  split
  · have hfraction : (ea - eb).natAbs ≤ (ea + eb).natAbs := by omega
    rw [sdiv, Int.natAbs_tdiv, Int.natAbs_mul, Int.natAbs_natCast]
    exact Nat.div_le_of_le_mul (Nat.mul_le_mul_right half hfraction)
  · exact Nat.zero_le _

theorem timingCorr_natAbs_le (trackEn : Bool) (half : Nat) (te : Int) :
    (timingCorr trackEn half te).natAbs ≤ te.natAbs / 2 := by
  unfold timingCorr
  split
  · rw [sdiv, Int.natAbs_tdiv]; rfl
  · exact Nat.zero_le _

theorem timingCorr_untracked (half : Nat) (te : Int) : timingCorr false half te = 0 := by simp [timingCorr]

/-! ## The window -/

/-- A restarted window is in its bounds when its length is (R177, R180). -/
theorem windowBounds_restart {a : ActiveCfg} {n : BitVec 13} (hmin : 1 ≤ a.sps.toNat) (hmax : a.sps.toNat ≤ 4096)
    (hlower : a.sps.toNat - a.sps.toNat / 3 ≤ n.toNat) (hupper : n.toNat ≤ a.sps.toNat + a.sps.toNat / 3)
    (hfixed : a.trackEn = false → n = a.sps) (rx : ModemRx) : WindowBounds a (rx.restartWindow n) where
  clk := show 0 < n.toNat by omega
  half := show (BitVec.ofNat 12 (n.toNat / 2)).toNat = n.toNat / 2 by rw [BitVec.toNat_ofNat]; omega
  lower := hlower
  upper := hupper
  fixed := hfixed

/-- The window restarted at its nominal length (R179, R180). -/
theorem windowBounds_nominal {a : ActiveCfg} (hmin : 1 ≤ a.sps.toNat) (hmax : a.sps.toNat ≤ 4096) (rx : ModemRx) :
    WindowBounds a (rx.restartWindow a.sps) :=
  windowBounds_restart hmin hmax (Nat.sub_le _ _) (Nat.le_add_right _ _) (fun _ => rfl) rx

/-- The next window, corrected by at most a third of `ACT_SPS`, is in its bounds (R174, R177). -/
theorem windowBounds_nextWindow {a : ActiveCfg} (hmin : 1 ≤ a.sps.toNat) (hmax : a.sps.toNat ≤ 4096) {corr : Int}
    (hcorr : corr.natAbs ≤ a.sps.toNat / 3) (hfixed : a.trackEn = false → corr = 0) (rx : ModemRx) :
    WindowBounds a (rx.nextWindow a.sps corr) := by
  have hlen : ((BitVec.ofInt 13 (a.sps.toNat - corr)).toNat : Int) = a.sps.toNat - corr := by
    rw [BitVec.toNat_ofInt]
    omega
  refine windowBounds_restart hmin hmax (by omega) (by omega) (fun huntracked => ?_) rx
  simp [hfixed huntracked]

/-- The end of a window: a window in its bounds is followed by one in its bounds (R171 to R177). -/
theorem windowBounds_windowEnd {a : ActiveCfg} {rx : ModemRx} (hmin : 1 ≤ a.sps.toNat) (hmax : a.sps.toNat ≤ 4096)
    (hhalf : rx.half.toNat = rx.wlen.toNat / 2) (hupper : rx.wlen.toNat ≤ a.sps.toNat + a.sps.toNat / 3) :
    WindowBounds a (rx.windowEnd a).1 := by
  refine windowBounds_nextWindow hmin hmax ?_ (fun huntracked => ?_) _
  · calc (timingCorr a.trackEn rx.half.toNat _).natAbs
      _ ≤ _ / 2 := timingCorr_natAbs_le _ _ _
      _ ≤ rx.half.toNat / 2 :=
        Nat.div_le_div_right (timingError_natAbs_le _ _ (pairEnergy_nonneg _ _) (pairEnergy_nonneg _ _))
      _ ≤ a.sps.toNat / 3 := by omega
  · rw [huntracked]
    exact timingCorr_untracked _ _

theorem WindowBounds.sample {a : ActiveCfg} {rx : ModemRx} (hmin : 1 ≤ a.sps.toNat) (hmax : a.sps.toNat ≤ 4096)
    (h : WindowBounds a rx) (x : Int) : WindowBounds a (rx.sample a x).1 := by
  have hclk := h.clk
  have hcount : (rx.clk + 1).toNat = rx.clk.toNat + 1 := by
    have := rx.wlen.isLt
    rw [BitVec.toNat_add]
    simp
    omega
  unfold ModemRx.sample
  dsimp only
  split
  · exact windowBounds_windowEnd (rx := rx.correlate a x) hmin hmax h.half h.upper
  · next hmore =>
    have hne : (rx.clk + 1).toNat ≠ rx.wlen.toNat := fun heq => hmore (BitVec.eq_of_toNat_eq heq)
    exact { h with clk := show (rx.clk + 1).toNat < rx.wlen.toNat by omega }

theorem WindowBounds.rxSamples {a : ActiveCfg} {rx : ModemRx} (hmin : 1 ≤ a.sps.toNat) (hmax : a.sps.toNat ≤ 4096)
    (h : WindowBounds a rx) (xs : List Entry) : WindowBounds a (rxSamples a xs rx).1 := by
  induction xs generalizing rx with
  | nil => exact h
  | cons x xs ih => exact ih (h.sample hmin hmax (int16 x))

/-! ## The configuration -/

/-- What validation finds of a shadow configuration it accepts (R143). -/
theorem invalid_eq_none {c : ShadowCfg} (h : c.invalid = none) :
    (c.sampleRate ≠ 0 ∧ c.symbolRate ≠ 0) ∧ freqsOk c.freq = true ∧
      (1 ≤ spsOf c.sampleRate c.symbolRate ∧ spsOf c.sampleRate c.symbolRate ≤ 4096) ∧ c.fecStrength = 32 := by
  unfold ShadowCfg.invalid at h
  split at h
  · cases h
  · next hrates =>
    split at h
    · cases h
    · next hfreqs =>
      split at h
      · cases h
      · next hsps =>
        split at h
        · cases h
        · next hstrength =>
          rw [spsMax] at hsps
          exact ⟨not_or.mp hrates, by simpa using hfreqs, by omega, by simpa using hstrength⟩

theorem configDerived_activate {c : ShadowCfg} (h : c.invalid = none) : ConfigDerived c.activate := by
  obtain ⟨hrates, hfreqs, ⟨hmin, hmax⟩, hstrength⟩ := invalid_eq_none h
  have hsps : c.activate.sps.toNat = spsOf c.sampleRate c.symbolRate := by
    simp only [ShadowCfg.activate, BitVec.toNat_ofNat]
    omega
  exact {
    rates := hrates
    freqs := hfreqs
    strength := hstrength
    spsMin := hsps ▸ hmin
    spsMax := hsps ▸ hmax
    sps := hsps
    fcw := rfl
    trackEn := by rw [hsps]; rfl }

/-- A configuration that changes no modem parameter derives the window's length and tracking again (R142). -/
theorem activate_of_not_modemChanged {c : ShadowCfg} {a : ActiveCfg} (hcfg : c.invalid = none) (ha : ConfigDerived a)
    (hsame : modemChanged c a = false) : c.activate.sps = a.sps ∧ c.activate.trackEn = a.trackEn := by
  obtain ⟨-, hsample, hsymbol, hfreq⟩ :
      ¬a.cfgValid = false ∧ c.sampleRate = a.sampleRate ∧ c.symbolRate = a.symbolRate ∧ c.freq = a.freq := by
    simpa [modemChanged] using hsame
  have hc := configDerived_activate hcfg
  have hsps : c.activate.sps.toNat = a.sps.toNat := by
    rw [hc.sps, ha.sps, ← hsample, ← hsymbol]
    rfl
  have hfcw : c.activate.fcw = a.fcw := by
    rw [hc.fcw, ha.fcw, ← hsample, ← hfreq]
    rfl
  exact ⟨BitVec.eq_of_toNat_eq hsps, by rw [hc.trackEn, ha.trackEn, hsps, hfcw]⟩

/-! ## The modem under the edits -/

/-- What the modem's invariants look at. -/
def State.modemView (s : State) : ActiveCfg × ModemTx × ModemRx := (s.act, s.tx, s.rx)

/-- R67 (3), and the modem idle until the first `SET_CONFIG`. -/
def ModemSound (s : State) : Prop := ModemConsistent s ∧ UnconfiguredIdle s

theorem modemSound_seesOnly : SeesOnly State.modemView ModemSound := by
  intro s t hview h
  obtain ⟨hact, htx, hrx⟩ : t.act = s.act ∧ t.tx = s.tx ∧ t.rx = s.rx := by simpa [State.modemView] using hview
  unfold ModemSound ModemConsistent UnconfiguredIdle
  rw [hact, htx, hrx]
  exact h

/-- With a valid configuration the modem is not idle, so only R67 (3) is left to keep. -/
theorem modemSound_of_valid {t : State} (hvalid : t.act.cfgValid = true) (hcfg : ConfigDerived t.act)
    (hwindow : WindowBounds t.act t.rx) : ModemSound t :=
  ⟨fun _ => ⟨hcfg, hwindow⟩, fun hinvalid => absurd (hvalid.symm.trans hinvalid) nofun⟩

/-- `modem_reset()` restarts the window of a valid configuration, and leaves an idle modem as it was (R180). -/
theorem ModemSound.modemReset {s : State} (h : ModemSound s) : ModemSound s.modemReset := by
  cases hvalid : s.act.cfgValid with
  | true =>
    obtain ⟨hcfg, -⟩ := h.1 hvalid
    exact modemSound_of_valid hvalid hcfg { windowBounds_nominal hcfg.spsMin hcfg.spsMax s.rx with }
  | false =>
    obtain ⟨hact, htx, hrx⟩ := h.2 hvalid
    have hsame : s.modemReset.modemView = s.modemView := by
      simp only [State.modemView, State.modemReset_act, State.modemReset_tx, State.modemReset_rx, hact, htx, hrx]
      rfl
    exact modemSound_seesOnly hsame h

theorem ModemSound.edit {s t : State} (he : s.Edit t) (h : ModemSound s) : ModemSound t := by
  cases he with
  | queueFrame bytes hvalid =>
    obtain ⟨hcfg, hwindow⟩ := h.1 hvalid
    exact modemSound_of_valid hvalid hcfg hwindow
  | transmit bytes hvalid =>
    obtain ⟨hcfg, hwindow⟩ := h.1 hvalid
    exact modemSound_of_valid hvalid hcfg hwindow
  | receive samples hvalid =>
    obtain ⟨hcfg, hwindow⟩ := h.1 hvalid
    exact modemSound_of_valid hvalid hcfg (hwindow.rxSamples hcfg.spsMin hcfg.spsMax samples)
  | realign hvalid =>
    obtain ⟨hcfg, -⟩ := h.1 hvalid
    exact modemSound_of_valid hvalid hcfg { windowBounds_nominal hcfg.spsMin hcfg.spsMax s.rx with }
  | modemReset => exact h.modemReset
  | activate hcfg hsame =>
    have hvalid : s.act.cfgValid = true := by
      by_contra hne
      simp [modemChanged, hne] at hsame
    obtain ⟨hold, hwindow⟩ := h.1 hvalid
    obtain ⟨hsps, htrack⟩ := activate_of_not_modemChanged hcfg hold hsame
    refine modemSound_of_valid rfl (configDerived_activate hcfg) { hwindow with
      lower := ?_
      upper := ?_
      fixed := ?_ }
    · exact hsps ▸ hwindow.lower
    · exact hsps ▸ hwindow.upper
    · exact fun huntracked => hsps ▸ hwindow.fixed (htrack ▸ huntracked)
  | reconfigure hcfg =>
    have hnew := configDerived_activate hcfg
    exact modemSound_of_valid rfl hnew { windowBounds_nominal hnew.spsMin hnew.spsMax s.rx with }
  | _ => exact h

theorem modemSound_keptByParts : KeptByParts ModemSound :=
  .of_view modemSound_seesOnly (fun _ _ _ _ _ _ => rfl) ModemSound.edit
    fun _ => ⟨modemConsistent_resetWith _, unconfiguredIdle_resetWith _⟩

/-- Settles O8: no timing correction exceeds a third of `ACT_SPS`, and only a valid configuration starts the modem. -/
theorem stepKeepsWindowAndConfiguration : Obligations.StepKeepsWindowAndConfiguration := fun _ _ hconsistent hidle hstep =>
  modemSound_keptByParts.step ⟨hconsistent, hidle⟩ hstep

end Sys2Proof.Machine
end

section
/-! What the host sees does not depend on the secrets (spec/10_state.md rule R56, spec/60_exceptions.md rule R375): no read
shows them, and a body that hands none to the collaborator ends alike whatever they are. -/

namespace Sys2Proof.Machine

/-! ## States that differ in the secrets -/

/-- The five secret and key registers (R56). -/
structure Secrets where
  sk : List Byte
  pk : List Byte
  peerKey : List Byte
  hsctx : List Byte
  keys : List Byte

/-- `s` with the secrets `x` in place of its own. -/
def State.withSecrets (s : State) (x : Secrets) : State :=
  { s with sess := { s.sess with
    sk := x.sk, pk := x.pk, peerKey := x.peerKey, hsctx := x.hsctx, keys := x.keys } }

theorem sameButSecrets_iff {s t : State} : SameButSecrets s t ↔ ∃ x, t = s.withSecrets x where
  mp h := ⟨⟨t.sess.sk, t.sess.pk, t.sess.peerKey, t.sess.hsctx, t.sess.keys⟩, h⟩
  mpr := by rintro ⟨x, rfl⟩; rfl

@[simp] theorem sameButSecrets_withSecrets (s : State) (x : Secrets) : SameButSecrets s (s.withSecrets x) := rfl

@[simp] theorem sameButSecrets_refl (s : State) : SameButSecrets s s := rfl

@[simp] theorem withSecrets_params (s : State) (x : Secrets) : (s.withSecrets x).params = s.params := rfl
@[simp] theorem withSecrets_host (s : State) (x : Secrets) : (s.withSecrets x).host = s.host := rfl
@[simp] theorem withSecrets_queues (s : State) (x : Secrets) : (s.withSecrets x).queues = s.queues := rfl
@[simp] theorem withSecrets_cfg (s : State) (x : Secrets) : (s.withSecrets x).cfg = s.cfg := rfl
@[simp] theorem withSecrets_act (s : State) (x : Secrets) : (s.withSecrets x).act = s.act := rfl
@[simp] theorem withSecrets_state (s : State) (x : Secrets) : (s.withSecrets x).sess.state = s.sess.state := rfl

/-! ## Register reads -/

theorem regValue_withSecrets (s : State) (x : Secrets) (off : Nat) : (s.withSecrets x).regValue off = s.regValue off := rfl

theorem popDout_withSecrets (s : State) (x : Secrets) : (s.withSecrets x).popDout = s.popDout.withSecrets x := by
  simp only [State.popDout, withSecrets_host]
  split <;> rfl

theorem popEvent_withSecrets (s : State) (x : Secrets) : (s.withSecrets x).popEvent = s.popEvent.withSecrets x := by
  simp only [State.popEvent, withSecrets_queues]
  split <;> rfl

theorem readEffect_withSecrets (s : State) (x : Secrets) (off : Nat) :
    (s.withSecrets x).readEffect off = (s.readEffect off).withSecrets x := by
  unfold State.readEffect
  split
  · exact popDout_withSecrets s x
  · exact popEvent_withSecrets s x
  · rfl

/-- Settles O17: the value read and the effect of the read are the same, whatever the secrets. -/
theorem noRegisterReadRevealsASecret : Obligations.NoRegisterReadRevealsASecret := by
  intro s t off width h
  obtain ⟨x, rfl⟩ := sameButSecrets_iff.mp h
  simp only [serveAccess]
  split
  · rw [readEffect_withSecrets, regValue_withSecrets]
    exact sameButSecrets_withSecrets { s.readEffect off with rdata := some (s.regValue off) } x
  · exact rfl

/-! ## Bodies that end alike -/

/-- Two bodies end alike: the same kind of end, the same error, and states that agree but for the secrets. -/
inductive Verdict.EndsLike : Verdict → Verdict → Prop where
  | success {s t : State} (h : SameButSecrets s t) : EndsLike (.success s) (.success t)
  | raised (e : CmdError) (d : Byte) : EndsLike (.raised e d) (.raised e d)
  | reported {s t : State} (e : CmdError) (d : Byte) (h : SameButSecrets s t) :
      EndsLike (.reported s e d) (.reported t e d)

/-- The body ends alike whatever the secrets are in the state it runs in. -/
def SecretBlind (body : State → Verdict) : Prop := ∀ (s : State) (x : Secrets), (body s).EndsLike (body (s.withSecrets x))

theorem finish_sameButSecrets {pre : State} {v w : Verdict} (h : v.EndsLike w) (x : Secrets) :
    SameButSecrets (v.finish pre) (w.finish (pre.withSecrets x)) := by
  cases h with
  | success hst =>
    obtain ⟨y, rfl⟩ := sameButSecrets_iff.mp hst
    rfl
  | raised e d => rfl
  | reported e d hst =>
    obtain ⟨y, rfl⟩ := sameButSecrets_iff.mp hst
    rfl

theorem runZ_sameButSecrets {body : State → Verdict} (h : SecretBlind body) (s : State) (x : Secrets) :
    OutcomeSameButSecrets (runZ body s) (runZ body (s.withSecrets x)) :=
  finish_sameButSecrets (pre := s.clearResults) (h s.clearResults x) x

theorem runLD_sameButSecrets {body : List Entry → State → Verdict} (h : ∀ operand, SecretBlind (body operand)) (len : Nat)
    (s : State) (x : Secrets) : OutcomeSameButSecrets (runLD len body s) (runLD len body (s.withSecrets x)) := by
  by_cases hlen : s.host.din.length = len
  · rw [runLD_of_eq body s len hlen, runLD_of_eq body (s.withSecrets x) len hlen]
    exact runZ_sameButSecrets (h _) (s.setDin []) x
  · rw [runLD_of_ne body s len (Ne.symm hlen), runLD_of_ne body (s.withSecrets x) len (Ne.symm hlen)]
    exact sameButSecrets_withSecrets (s.takeError .lengthMismatch 0) x

/-- A test that the secrets do not decide is taken the same way. -/
theorem Verdict.EndsLike.ite {c : Prop} [Decidable c] {v v' w w' : Verdict} (hv : c → v.EndsLike v')
    (hw : ¬c → w.EndsLike w') : (if c then v else w).EndsLike (if c then v' else w') := by
  split
  next hc => exact hv hc
  next hc => exact hw hc

open Verdict.EndsLike (success raised reported ite)

theorem setConfigBody_secretBlind : SecretBlind setConfigBody := by
  intro s x
  simp only [setConfigBody, withSecrets_cfg, withSecrets_act]
  split
  · exact raised _ _
  · by_cases hchanged : modemChanged s.cfg s.act = true
    · simp only [hchanged, if_true]
      exact success rfl
    · simp only [hchanged]
      exact success rfl

theorem samplesForBytesBody_secretBlind (len : Nat) : SecretBlind (samplesForBytesBody len) := fun _ _ =>
  ite (fun _ => raised _ _) fun _ => success rfl

theorem modulateBody_secretBlind (operand : List Entry) : SecretBlind (modulateBody operand) := fun _ _ =>
  ite (fun _ => raised _ _) fun _ => ite (fun _ => raised _ _) fun _ => success rfl

theorem demodulateBody_secretBlind (operand : List Entry) : SecretBlind (demodulateBody operand) := fun _ _ =>
  ite (fun _ => raised _ _) fun _ => ite (fun _ => raised _ _) fun _ => success rfl

theorem fecEncodeBody_secretBlind (operand : List Entry) : SecretBlind (fecEncodeBody operand) := fun _ _ =>
  ite (fun _ => raised _ _) fun _ => ite (fun _ => raised _ _) fun _ => success rfl

theorem fecDecodeBody_secretBlind (operand : List Entry) : SecretBlind (fecDecodeBody operand) := fun s x =>
  ite (fun _ => raised _ _) fun _ => ite (fun _ => raised _ _) fun _ => by
    split
    · exact reported _ _ rfl
    · exact success rfl

theorem emitTeardown_withSecrets (s : State) (x : Secrets) :
    (s.withSecrets x).emitTeardown = s.emitTeardown.withSecrets x := by
  simp only [State.emitTeardown, withSecrets_state]
  split <;> rfl

theorem initializeBody_secretBlind (operand : List Entry) : SecretBlind (initializeBody operand) := fun s x =>
  ite (fun _ => raised _ _) fun _ => success (by rw [emitTeardown_withSecrets]; rfl)

theorem derivePubkeyBody_secretBlind (operand : List Entry) : SecretBlind (derivePubkeyBody operand) := fun _ _ =>
  ite (fun _ => raised _ _) fun _ => ite (fun _ => raised _ _) fun _ => success rfl

theorem stopBody_secretBlind : SecretBlind stopBody := fun s x =>
  ite (fun _ => success rfl) fun _ => success (by rw [emitTeardown_withSecrets]; rfl)

theorem hsReadBody_secretBlind : SecretBlind hsReadBody := fun _ _ =>
  ite (fun _ => success rfl) fun _ => ite (fun _ => raised _ _) fun _ => success rfl

theorem tickBody_secretBlind : SecretBlind tickBody := fun _ _ =>
  ite (fun _ => ite (fun _ => reported _ _ rfl) fun _ => success rfl) fun _ => success rfl

theorem generateOutgoingFrameBody_secretBlind : SecretBlind generateOutgoingFrameBody := by
  intro s x
  simp only [generateOutgoingFrameBody, withSecrets_queues]
  split
  · exact success rfl
  · exact ite (fun _ => raised _ _) fun _ => success rfl

theorem pullSpeakerFrameBody_secretBlind : SecretBlind pullSpeakerFrameBody := by
  intro s x
  simp only [pullSpeakerFrameBody, withSecrets_queues]
  split
  · exact success rfl
  · exact ite (fun _ => raised _ _) fun _ => success rfl

theorem bodyOf_secretBlind {i : Instr} (hi : usesSecrets i = false) (operand : List Entry) :
    SecretBlind (bodyOf i operand) := by
  cases i with
  | nop => exact fun _ _ => success rfl
  | setConfig => exact setConfigBody_secretBlind
  | dioFlush => exact fun _ _ => success rfl
  | modemReset => exact fun _ _ => success rfl
  | samplesForBytes len => exact samplesForBytesBody_secretBlind len
  | modulate => exact modulateBody_secretBlind operand
  | demodulate => exact demodulateBody_secretBlind operand
  | fecEncode => exact fecEncodeBody_secretBlind operand
  | fecDecode => exact fecDecodeBody_secretBlind operand
  | fecEncodedLen => exact fun _ _ => success rfl
  | fecDataLen => exact fun _ _ => success rfl
  | initializeSession => exact initializeBody_secretBlind operand
  | stopSession => exact stopBody_secretBlind
  | derivePubkey => exact derivePubkeyBody_secretBlind operand
  | consumeRemoteHangup => exact fun _ _ => success rfl
  | hsRead => exact hsReadBody_secretBlind
  | tick => exact tickBody_secretBlind
  | generateOutgoingFrame => exact generateOutgoingFrameBody_secretBlind
  | pullSpeakerFrame => exact pullSpeakerFrameBody_secretBlind
  | startServer => cases hi
  | startClient => cases hi
  | sendHangup => cases hi
  | hsWrite => cases hi
  | feedMicFrame => cases hi
  | handleIncomingFrame => cases hi

/-- Settles O18: the body is blind to the secrets, and its runner too. -/
theorem commandsWithoutTheCollaboratorRevealNoSecret : Obligations.CommandsWithoutTheCollaboratorRevealNoSecret := by
  intro i s t hi h
  obtain ⟨x, rfl⟩ := sameButSecrets_iff.mp h
  rw [exec_eq, exec_eq]
  split
  · exact runLD_sameButSecrets (bodyOf_secretBlind hi) i.len s x
  · exact runZ_sameButSecrets (bodyOf_secretBlind hi []) s x

end Sys2Proof.Machine
end

section
/-! The service of one access (spec/20_memory.md rules R81, R86, R101): what a step, a read, a write and a write of a command
word come to, for a legal access and for one that is not. -/

namespace Sys2Proof.Machine

/-! ## The first pending access -/

theorem step_of_pending_nil {s : State} (h : s.pending = []) : step s = .next s := by
  obtain ⟨-, hstep⟩ | ⟨a, rest, hfirst, -⟩ := step_cases s
  · exact hstep
  · simp [h] at hfirst

theorem step_of_pending_cons {s : State} {a : BusAccess} {rest : List BusAccess} (h : s.pending = a :: rest) :
    step s = serveAccess a (s.takeAccess rest) := by
  obtain ⟨hnone, -⟩ | ⟨b, others, hfirst, hstep⟩ := step_cases s
  · simp [h] at hnone
  · obtain ⟨rfl, rfl⟩ : a = b ∧ rest = others := by simpa [h] using hfirst
    exact hstep

/-! ## Legal and illegal accesses -/

theorem serveAccess_read {off : Nat} (halign : off % 4 = 0) (hrange : off < 0x200) (s : State) :
    serveAccess (.read off 4) s = .next { s.readEffect off with rdata := some (s.regValue off) } :=
  if_pos ⟨rfl, halign, hrange⟩

theorem serveAccess_write {off : Nat} (halign : off % 4 = 0) (hrange : off < 0x200) (hcmd : off ≠ cmdOffset) (v : Word)
    (s : State) : serveAccess (.write off 4 v) s = .next (s.regWrite off v) :=
  (if_pos ⟨rfl, halign, hrange⟩).trans (if_neg hcmd)

theorem serveAccess_command (w : Word) (s : State) : serveAccess (.write cmdOffset 4 w) s = runCommand w s := rfl

theorem serveAccess_read_illegal {off width : Nat} (h : ¬legalAccess off width) (s : State) :
    serveAccess (.read off width) s = .refused (.illegalAccess off width) := if_neg h

theorem serveAccess_write_illegal {off width : Nat} (h : ¬legalAccess off width) (v : Word) (s : State) :
    serveAccess (.write off width v) s = .refused (.illegalAccess off width) := if_neg h

theorem runCommand_of_decode {w : Word} {i : Instr} {s : State} (hbusy : s.host.busy = false) (hdec : decode w = .ok i) :
    runCommand w s = exec i s := by
  obtain ⟨hb, -⟩ | ⟨-, j, hj, hrun⟩ | ⟨-, e, he, -⟩ := runCommand_cases w s
  · simp [hbusy] at hb
  · obtain rfl : i = j := by simpa [hdec] using hj
    exact hrun
  · simp [hdec] at he

/-- Settles O4: the first pending access is served, and `serveAccess` does what the access is for. -/
theorem stepRunsTheDecodedCommand : Obligations.StepRunsTheDecodedCommand := by
  refine ⟨fun s a rest => step_of_pending_cons, fun s => step_of_pending_nil, ?command, ?illegal⟩
  case command =>
    intro s rest w i hpending hbusy hdec
    calc step s = serveAccess (.write cmdOffset 4 w) (s.takeAccess rest) := step_of_pending_cons hpending
      _ = runCommand w (s.takeAccess rest) := serveAccess_command w _
      _ = exec i (s.takeAccess rest) := runCommand_of_decode hbusy hdec
  case illegal =>
    intro s rest off width hillegal
    exact ⟨fun hpending => (step_of_pending_cons hpending).trans (serveAccess_read_illegal hillegal _),
      fun v hpending => (step_of_pending_cons hpending).trans (serveAccess_write_illegal hillegal v _)⟩

/-! ## The data ports -/

theorem pushDin_of_room {s : State} (h : s.host.din.length < s.params.dinCap) (v : Word) :
    s.pushDin v = s.setDin (s.host.din ++ [v.extractLsb' 0 16]) := if_pos h

theorem pushDin_of_full {s : State} (h : s.params.dinCap ≤ s.host.din.length) (v : Word) :
    s.pushDin v = { s with host := { s.host with dinOverflow := true } } := if_neg (Nat.not_lt.mpr h)

theorem popDout_of_cons {s : State} {e : Entry} {rest : List Entry} (h : s.host.dout = e :: rest) :
    s.popDout = { s with host := { s.host with dout := rest } } := by
  simp [State.popDout, h]

theorem popDout_of_nil {s : State} (h : s.host.dout = []) :
    s.popDout = { s with host := { s.host with doutUnderflow := true } } := by
  simp [State.popDout, h]

theorem popEvent_of_cons {s : State} {w : Word} {rest : List Word} (h : s.queues.evq = w :: rest) :
    s.popEvent = { s with queues := { s.queues with evq := rest } } := by
  simp [State.popEvent, h]

theorem popEvent_of_nil {s : State} (h : s.queues.evq = []) :
    s.popEvent = { s with host := { s.host with evUnderflow := true } } := by
  simp [State.popEvent, h]

theorem regValue_doutData (s : State) : s.regValue 0x020 = BitVec.ofNat 32 (s.host.dout.headD 0).toNat :=
  (BitVec.ofNat_toNat 32 _).symm

theorem regValue_evData (s : State) : s.regValue 0x028 = s.queues.evq.headD 0 := rfl

theorem serveAccess_read_doutData (s : State) : serveAccess (.read 0x020 4) s =
    .next { s.popDout with rdata := some (BitVec.ofNat 32 (s.host.dout.headD 0).toNat) } := by
  rw [serveAccess_read (by decide) (by decide), regValue_doutData]
  rfl

theorem serveAccess_read_evData (s : State) : serveAccess (.read 0x028 4) s =
    .next { s.popEvent with rdata := some (s.queues.evq.headD 0) } := serveAccess_read (by decide) (by decide) s

theorem serveAccess_write_dinData (v : Word) (s : State) : serveAccess (.write 0x018 4 v) s = .next (s.pushDin v) :=
  serveAccess_write (by decide) (by decide) (by decide) v s

/-- Settles O58: the two ends of each port, full or with room, empty or not. -/
theorem dataPortsPushAndPop : Obligations.DataPortsPushAndPop := by
  intro s v
  refine ⟨?room, ?full, rfl, ?doutCons, ?doutNil, rfl, ?evCons, ?evNil, rfl⟩
  case room =>
    intro h
    rw [serveAccess_write_dinData, pushDin_of_room h]
    rfl
  case full =>
    intro h
    rw [serveAccess_write_dinData, pushDin_of_full h]
  case doutCons =>
    intro e rest h
    rw [serveAccess_read_doutData, popDout_of_cons h, h]
    rfl
  case doutNil =>
    intro h
    rw [serveAccess_read_doutData, popDout_of_nil h, h]
    rfl
  case evCons =>
    intro w rest h
    rw [serveAccess_read_evData, popEvent_of_cons h, h]
    rfl
  case evNil =>
    intro h
    rw [serveAccess_read_evData, popEvent_of_nil h, h]
    rfl

end Sys2Proof.Machine
end

section
/-! The fields of a word that packs several registers: `STATUS`, `ERR`, `ACT_FLAGS`, `MODEM_STATUS` and `MODEM_WINDOW`
(spec/20_memory.md rules R83, R85). -/

namespace Sys2Proof.Machine

/-! ## A field of a word, as a part of the number the word stands for -/

theorem bit_lt_two (b : Bool) : bit b < 2 := by cases b <;> decide

theorem getLsbD_eq_of_div {w : Word} {i : Nat} {b : Bool} (h : w.toNat / 2 ^ i % 2 = bit b) : w.getLsbD i = b := by
  rw [BitVec.getLsbD, Nat.testBit_eq_decide_div_mod_eq, h]
  cases b <;> rfl

theorem extractLsb'_toNat_eq (w : Word) (lo len : Nat) : (w.extractLsb' lo len).toNat = w.toNat / 2 ^ lo % 2 ^ len := by
  rw [BitVec.extractLsb'_toNat, Nat.shiftRight_eq_div_pow]

theorem extractLsb'_eq_of_div {w : Word} {lo len : Nat} {x : BitVec len} (h : w.toNat / 2 ^ lo % 2 ^ len = x.toNat) :
    w.extractLsb' lo len = x := BitVec.eq_of_toNat_eq ((extractLsb'_toNat_eq w lo len).trans h)

theorem extractLsb'_eq_zero_of_div {w : Word} {lo len : Nat} (h : w.toNat / 2 ^ lo % 2 ^ len = 0) :
    w.extractLsb' lo len = 0 := extractLsb'_eq_of_div (h.trans BitVec.toNat_zero.symm)

/-- A bit inside a field that is 0 is 0. -/
theorem getLsbD_of_extractLsb'_eq_zero {w : Word} {lo len i : Nat} (h : w.extractLsb' lo len = 0) (hlo : lo ≤ i)
    (hhi : i < lo + len) : w.getLsbD i = false := by
  have hbit : (w.extractLsb' lo len).getLsbD (i - lo) = w.getLsbD i := by
    rw [BitVec.getLsbD_extractLsb', Nat.add_sub_cancel' hlo, decide_eq_true (by omega), Bool.true_and]
  rw [← hbit, h]
  exact BitVec.getLsbD_zero

/-- A word has none of the bits of `mask` when every bit of `mask` is 0 in the word. -/
theorem and_eq_zero_of_getLsbD {w mask : Word} (h : ∀ i < 32, mask.getLsbD i = true → w.getLsbD i = false) :
    w &&& mask = 0 := by
  refine BitVec.eq_of_getLsbD_eq fun i hi => ?_
  rw [BitVec.getLsbD_and]
  cases hmask : mask.getLsbD i with
  | false => simp
  | true => simp [h i hi hmask]

/-- The low `n` bits of a word, widened again, are the word under a mask. -/
theorem setWidth_extractLsb'_eq_and (v : Word) {n : Nat} (hn : n ≤ 32) :
    (v.extractLsb' 0 n).setWidth 32 = v &&& BitVec.ofNat 32 (2 ^ n - 1) := by
  have hlow : 2 ^ n - 1 < 2 ^ 32 := lt_of_lt_of_le (Nat.sub_lt (Nat.two_pow_pos n) one_pos) (Nat.pow_le_pow_right two_pos hn)
  apply BitVec.eq_of_toNat_eq
  rw [BitVec.toNat_setWidth_of_le hn, extractLsb'_toNat_eq, BitVec.toNat_and, BitVec.toNat_ofNat, Nat.mod_eq_of_lt hlow,
    Nat.and_two_pow_sub_one_eq_mod, pow_zero, Nat.div_one]

/-! ## `STATUS` -/

theorem SessState.code_lt (x : SessState) : x.code < 2 ^ 4 := by cases x <;> decide

theorem roleCode_eq_bit (r : Role) : roleCode r = bit (decide (r = .client)) := by cases r <;> rfl

theorem TermKind.code_lt (k : TermKind) : k.code < 2 ^ 2 := by cases k <;> decide

/-- The fields of `STATUS` do not overlap (R85). -/
theorem statusWord_fields (s : State) :
    let w := s.statusWord
    w.getLsbD 0 = s.host.busy ∧ w.getLsbD 1 = s.act.cfgValid ∧ w.getLsbD 2 = s.rx.locked ∧
    w.getLsbD 3 = s.sess.hsOutValid ∧ w.getLsbD 4 = s.sess.hangupLocalSent ∧
    w.getLsbD 5 = s.sess.hangupRemotePending ∧ w.getLsbD 6 = s.sess.hangupRemoteLatch ∧ w.getLsbD 7 = s.act.fecEn ∧
    (w.extractLsb' 8 4).toNat = s.sess.state.code ∧ w.getLsbD 12 = decide (s.sess.role = .client) ∧
    (w.extractLsb' 13 2).toNat = s.sess.termKind.code ∧ w.getLsbD 15 = s.sess.keypairValid ∧
    w.extractLsb' 16 8 = s.sess.termReason ∧ w.extractLsb' 24 8 = 0 := by
  intro w
  have hbusy := bit_lt_two s.host.busy
  have hvalid := bit_lt_two s.act.cfgValid
  have hlocked := bit_lt_two s.rx.locked
  have hmail := bit_lt_two s.sess.hsOutValid
  have hsent := bit_lt_two s.sess.hangupLocalSent
  have hremote := bit_lt_two s.sess.hangupRemotePending
  have hlatch := bit_lt_two s.sess.hangupRemoteLatch
  have hfec := bit_lt_two s.act.fecEn
  have hstate := s.sess.state.code_lt
  have hrole := bit_lt_two (decide (s.sess.role = .client))
  have hkind := s.sess.termKind.code_lt
  have hkeypair := bit_lt_two s.sess.keypairValid
  have hreason := s.sess.termReason.isLt
  have hw : w.toNat = _ := BitVec.toNat_ofNat _ 32
  rw [roleCode_eq_bit] at hw
  refine ⟨getLsbD_eq_of_div ?_, getLsbD_eq_of_div ?_, getLsbD_eq_of_div ?_, getLsbD_eq_of_div ?_, getLsbD_eq_of_div ?_,
    getLsbD_eq_of_div ?_, getLsbD_eq_of_div ?_, getLsbD_eq_of_div ?_, (extractLsb'_toNat_eq w 8 4).trans ?_,
    getLsbD_eq_of_div ?_, (extractLsb'_toNat_eq w 13 2).trans ?_, getLsbD_eq_of_div ?_, extractLsb'_eq_of_div ?_,
    extractLsb'_eq_zero_of_div ?_⟩ <;> omega

theorem serveAccess_read_status (s : State) :
    serveAccess (.read 0x004 4) s = .next { s with rdata := some s.statusWord } :=
  serveAccess_read (by decide) (by decide) s

/-- Settles O57: the fields of `STATUS`, its two enumerations by the encodings of R261. -/
theorem statusReadsItsFields : Obligations.StatusReadsItsFields := by
  intro s
  obtain ⟨hbusy, hvalid, hlocked, hmail, hsent, hremote, hlatch, hfec, hstate, hrole, hkind, hkeypair, hreason, hupper⟩ :=
    statusWord_fields s
  refine ⟨serveAccess_read_status s, hbusy, hvalid, hlocked, hmail, hsent, hremote, hlatch, hfec, hstate.trans ?state,
    by rw [hrole, decide_eq_true_iff], hkind.trans ?kind, hkeypair, hreason, hupper, statusWord_resetWith s.params⟩
  case state => cases s.sess.state <;> rfl
  case kind => cases s.sess.termKind <;> rfl

/-! ## `ERR`, `ACT_FLAGS`, `MODEM_STATUS`, `MODEM_WINDOW` -/

theorem errWord_fields (s : State) :
    s.errWord.extractLsb' 0 8 = s.host.errCode ∧ s.errWord.extractLsb' 8 8 = s.host.errDetail ∧
      s.errWord.extractLsb' 16 16 = 0 := by
  have hcode := s.host.errCode.isLt
  have hdetail := s.host.errDetail.isLt
  have hw : s.errWord.toNat = _ := BitVec.toNat_ofNat _ 32
  refine ⟨extractLsb'_eq_of_div ?_, extractLsb'_eq_of_div ?_, extractLsb'_eq_zero_of_div ?_⟩ <;> omega

theorem flagsWord_fields (a : ActiveCfg) :
    a.flagsWord.getLsbD 0 = a.fecEn ∧ a.flagsWord.getLsbD 1 = a.debugLog ∧ a.flagsWord.getLsbD 2 = a.trackEn ∧
      a.flagsWord.getLsbD 3 = a.cfgValid ∧ a.flagsWord.extractLsb' 4 28 = 0 := by
  have hfec := bit_lt_two a.fecEn
  have hdebug := bit_lt_two a.debugLog
  have htrack := bit_lt_two a.trackEn
  have hvalid := bit_lt_two a.cfgValid
  have hw : a.flagsWord.toNat = _ := BitVec.toNat_ofNat _ 32
  refine ⟨getLsbD_eq_of_div ?_, getLsbD_eq_of_div ?_, getLsbD_eq_of_div ?_, getLsbD_eq_of_div ?_,
    extractLsb'_eq_zero_of_div ?_⟩ <;> omega

/-- The last three parts are the bits of `MODEM_STATUS` that no field has. -/
theorem modemStatusWord_fields (rx : ModemRx) :
    rx.statusWord.getLsbD 0 = rx.locked ∧ rx.statusWord.extractLsb' 4 4 = rx.lockq ∧
      rx.statusWord.extractLsb' 8 2 = rx.nsym ∧ rx.statusWord.extractLsb' 16 13 = rx.clk ∧
      rx.statusWord.extractLsb' 1 3 = 0 ∧ rx.statusWord.extractLsb' 10 6 = 0 ∧ rx.statusWord.extractLsb' 29 3 = 0 := by
  have hlocked := bit_lt_two rx.locked
  have hlockq := rx.lockq.isLt
  have hnsym := rx.nsym.isLt
  have hclk := rx.clk.isLt
  have hw : rx.statusWord.toNat = _ := BitVec.toNat_ofNat _ 32
  refine ⟨getLsbD_eq_of_div ?_, extractLsb'_eq_of_div ?_, extractLsb'_eq_of_div ?_, extractLsb'_eq_of_div ?_,
    extractLsb'_eq_zero_of_div ?_, extractLsb'_eq_zero_of_div ?_, extractLsb'_eq_zero_of_div ?_⟩ <;> omega

theorem modemStatusWord_unused (rx : ModemRx) : rx.statusWord &&& 0xE000FC0E = 0 := by
  obtain ⟨-, -, -, -, hlow, hmid, hhigh⟩ := modemStatusWord_fields rx
  have hmask : ∀ i < 32, (0xE000FC0E : Word).getLsbD i = true → (1 ≤ i ∧ i < 4) ∨ (10 ≤ i ∧ i < 16) ∨ (29 ≤ i ∧ i < 32) := by
    decide
  refine and_eq_zero_of_getLsbD fun i hi hbit => ?_
  obtain ⟨hlo, hhi⟩ | ⟨hlo, hhi⟩ | ⟨hlo, hhi⟩ := hmask i hi hbit
  · exact getLsbD_of_extractLsb'_eq_zero hlow hlo hhi
  · exact getLsbD_of_extractLsb'_eq_zero hmid hlo hhi
  · exact getLsbD_of_extractLsb'_eq_zero hhigh hlo hhi

/-- The last two parts are the bits of `MODEM_WINDOW` that no field has. -/
theorem windowWord_fields (rx : ModemRx) :
    rx.windowWord.extractLsb' 0 13 = rx.wlen ∧ rx.windowWord.extractLsb' 16 12 = rx.half ∧
      rx.windowWord.extractLsb' 13 3 = 0 ∧ rx.windowWord.extractLsb' 28 4 = 0 := by
  have hwlen := rx.wlen.isLt
  have hhalf := rx.half.isLt
  have hw : rx.windowWord.toNat = _ := BitVec.toNat_ofNat _ 32
  refine ⟨extractLsb'_eq_of_div ?_, extractLsb'_eq_of_div ?_, extractLsb'_eq_zero_of_div ?_,
    extractLsb'_eq_zero_of_div ?_⟩ <;> omega

theorem windowWord_unused (rx : ModemRx) : rx.windowWord &&& 0xF000E000 = 0 := by
  obtain ⟨-, -, hmid, hhigh⟩ := windowWord_fields rx
  have hmask : ∀ i < 32, (0xF000E000 : Word).getLsbD i = true → (13 ≤ i ∧ i < 16) ∨ (28 ≤ i ∧ i < 32) := by decide
  refine and_eq_zero_of_getLsbD fun i hi hbit => ?_
  obtain ⟨hlo, hhi⟩ | ⟨hlo, hhi⟩ := hmask i hi hbit
  · exact getLsbD_of_extractLsb'_eq_zero hmid hlo hhi
  · exact getLsbD_of_extractLsb'_eq_zero hhigh hlo hhi

end Sys2Proof.Machine
end

section
/-! The register map (spec/20_memory.md rules R83, R84, R87, R88, R94 to R96, R100): the shadow registers as an array of ten
words, and the offsets that have a read value, a read effect or a write effect. -/

namespace Sys2Proof.Machine

/-! ## The shadow registers are ten words that store -/

/-- The ten shadow registers in the order of their offsets, `0x040 .. 0x064`, as a host reads them (R83). -/
def ShadowCfg.words (c : ShadowCfg) : List Word :=
  [c.sampleRate, c.symbolRate, c.freq.t0, c.freq.t1, c.freq.t2, c.freq.t3, c.flags.setWidth 32, c.fecStrength.setWidth 32,
    c.codecMode, c.hsTimeout]

/-- The implemented bits of the shadow register at `off` (R83). -/
def shadowMask (off : Nat) : Word :=
  if off = 0x058 then 0x00000003 else if off = 0x05C then 0x000000FF else 0xFFFFFFFF

/-- The shadow registers are the ten aligned offsets from `0x040`. -/
theorem shadow_offset_index {off : Nat} (halign : off % 4 = 0) (hlo : 0x040 ≤ off) (hhi : off ≤ 0x064) :
    ∃ k < 10, off = 0x040 + 4 * k := ⟨(off - 0x040) / 4, by omega, by omega⟩

theorem regValue_shadow (s : State) {k : Nat} (hk : k < 10) : s.regValue (0x040 + 4 * k) = s.cfg.words.getD k 0 := by
  interval_cases k <;> rfl

theorem regWrite_shadow_frame (s : State) {k : Nat} (hk : k < 10) (v : Word) :
    s.regWrite (0x040 + 4 * k) v = { s with cfg := (s.regWrite (0x040 + 4 * k) v).cfg } := by
  interval_cases k <;> rfl

theorem and_shadowMask_of_full {off : Nat} (hflags : off ≠ 0x058) (hfec : off ≠ 0x05C) (v : Word) :
    v &&& shadowMask off = v := by
  rw [shadowMask, if_neg hflags, if_neg hfec]
  exact BitVec.and_allOnes

/-- A write of a shadow register is a write of that word of the array (R94). -/
theorem regWrite_shadow_words (s : State) {k : Nat} (hk : k < 10) (v : Word) :
    (s.regWrite (0x040 + 4 * k) v).cfg.words = s.cfg.words.set k (v &&& shadowMask (0x040 + 4 * k)) := by
  obtain hfull | rfl | rfl | rfl | rfl : k < 6 ∨ k = 6 ∨ k = 7 ∨ k = 8 ∨ k = 9 := by omega
  · rw [and_shadowMask_of_full (by omega) (by omega)]
    interval_cases k <;> rfl
  · exact congrArg (s.cfg.words.set 6) (setWidth_extractLsb'_eq_and v (n := 2) (by decide))
  · exact congrArg (s.cfg.words.set 7) (setWidth_extractLsb'_eq_and v (n := 8) (by decide))
  · rw [and_shadowMask_of_full (by decide) (by decide)]
    rfl
  · rw [and_shadowMask_of_full (by decide) (by decide)]
    rfl

theorem regValue_regWrite_shadow_same (s : State) {k : Nat} (hk : k < 10) (v : Word) :
    (s.regWrite (0x040 + 4 * k) v).regValue (0x040 + 4 * k) = v &&& shadowMask (0x040 + 4 * k) := by
  have hlen : k < s.cfg.words.length := hk
  rw [regValue_shadow _ hk, regWrite_shadow_words s hk, List.getD_eq_getElem?_getD, List.getElem?_set_self hlen,
    Option.getD_some]

theorem regValue_regWrite_shadow_other (s : State) {k j : Nat} (hk : k < 10) (hj : j < 10) (hne : j ≠ k) (v : Word) :
    (s.regWrite (0x040 + 4 * k) v).regValue (0x040 + 4 * j) = s.regValue (0x040 + 4 * j) := by
  rw [regValue_shadow _ hj, regValue_shadow _ hj, regWrite_shadow_words s hk, List.getD_eq_getElem?_getD,
    List.getElem?_set_ne hne.symm, ← List.getD_eq_getElem?_getD]

/-! ## Offsets with no effect and no value -/

/-- The registers other than `CMD` that a write can change (R83, R96). -/
def writableOffsets : List Nat :=
  [0x018, 0x030, 0x034, 0x040, 0x044, 0x048, 0x04C, 0x050, 0x054, 0x058, 0x05C, 0x060, 0x064]

/-- The registers of the map that a host can read; every other offset is write-only or reserved (R83). -/
def readableOffsets : List Nat :=
  [0x000, 0x004, 0x00C, 0x010, 0x014, 0x01C, 0x020, 0x024, 0x028, 0x02C, 0x030, 0x034, 0x040, 0x044, 0x048, 0x04C, 0x050,
    0x054, 0x058, 0x05C, 0x060, 0x064, 0x080, 0x084, 0x088, 0x08C, 0x090, 0x094, 0x098, 0x09C, 0x0A0, 0x0A4, 0x0A8, 0x0AC,
    0x0B0, 0x0B4, 0x0B8, 0x0C0, 0x0C4, 0x0C8, 0x0CC, 0x0D0, 0x0D4, 0x0E0, 0x0E4, 0x0E8, 0x0EC, 0x0F0, 0x100, 0x104, 0x108,
    0x10C, 0x110, 0x114, 0x118, 0x11C, 0x120]

theorem regWrite_of_not_writable {off : Nat} (h : off ∉ writableOffsets) (s : State) (v : Word) : s.regWrite off v = s := by
  unfold State.regWrite
  split
  case h_14 => rfl
  all_goals exact absurd (by decide) h

theorem regValue_of_not_readable {off : Nat} (h : off ∉ readableOffsets) (s : State) : s.regValue off = 0 := by
  unfold State.regValue
  split
  case h_58 => rfl
  all_goals exact absurd (by decide) h

theorem readEffect_of_not_port {off : Nat} (h : off ∉ [0x020, 0x028]) (s : State) : s.readEffect off = s := by
  unfold State.readEffect
  split
  case h_3 => rfl
  all_goals exact absurd (by decide) h

/-- The shadow registers and the four offsets whose write is no plain store are all that a write can change (R96). -/
theorem not_writable_of_outside {off : Nat} (hshadow : ¬(0x040 ≤ off ∧ off ≤ 0x064))
    (h : off ∉ [0x008, 0x018, 0x030, 0x034]) : off ∉ writableOffsets := fun hmem =>
  have hwritable : ∀ o ∈ writableOffsets, (0x040 ≤ o ∧ o ≤ 0x064) ∨ o ∈ [0x008, 0x018, 0x030, 0x034] := by decide
  (hwritable off hmem).elim hshadow h

/-- The write-only and the reserved offsets of R83. -/
abbrev unreadOffset (off : Nat) : Prop :=
  off ∈ [0x008, 0x018, 0x038, 0x03C, 0x0BC, 0x0D8, 0x0DC, 0x0F4, 0x0F8, 0x0FC] ∨ (0x068 ≤ off ∧ off < 0x080) ∨ 0x124 ≤ off

theorem regValue_of_unread {off : Nat} (h : unreadOffset off) (s : State) : s.regValue off = 0 :=
  have hreadable : ∀ o ∈ readableOffsets, ¬unreadOffset o := by decide
  regValue_of_not_readable (fun hmem => hreadable off hmem h) s

/-! ## The per-tone arrays and the registers narrower than a word -/

theorem regValue_cfgFreq (s : State) (k : Symbol) : s.regValue (0x048 + 4 * k.val) = s.cfg.freq.get k := by
  fin_cases k <;> rfl

theorem regValue_actFreq (s : State) (k : Symbol) : s.regValue (0x088 + 4 * k.val) = s.act.freq.get k := by
  fin_cases k <;> rfl

theorem regValue_fcw (s : State) (k : Symbol) : s.regValue (0x0AC + 4 * k.val) = s.act.fcw.get k := by
  fin_cases k <;> rfl

theorem regValue_cfgFlags (s : State) : (s.regValue 0x058).toNat = s.cfg.flags.toNat :=
  BitVec.toNat_setWidth_of_le (by decide)

theorem regValue_cfgFecStrength (s : State) : (s.regValue 0x05C).toNat = s.cfg.fecStrength.toNat :=
  BitVec.toNat_setWidth_of_le (by decide)

theorem regValue_actFecStrength (s : State) : (s.regValue 0x09C).toNat = s.act.fecStrength.toNat :=
  BitVec.toNat_setWidth_of_le (by decide)

theorem regValue_sps (s : State) : (s.regValue 0x0A8).toNat = s.act.sps.toNat :=
  BitVec.toNat_setWidth_of_le (by decide)

theorem regValue_timingErr (s : State) : (s.regValue 0x0CC).toInt = s.rx.timingErr.toInt :=
  BitVec.toInt_signExtend_of_le (by decide)

theorem regValue_modemStatus (s : State) :
    (s.regValue 0x0D0).getLsbD 0 = s.rx.locked ∧ (s.regValue 0x0D0).extractLsb' 4 4 = s.rx.lockq ∧
      (s.regValue 0x0D0).extractLsb' 8 2 = s.rx.nsym ∧ (s.regValue 0x0D0).extractLsb' 16 13 = s.rx.clk ∧
      s.regValue 0x0D0 &&& 0xE000FC0E = 0 :=
  have ⟨hlocked, hlockq, hnsym, hclk, _⟩ := modemStatusWord_fields s.rx
  ⟨hlocked, hlockq, hnsym, hclk, modemStatusWord_unused s.rx⟩

theorem regValue_modemWindow (s : State) :
    (s.regValue 0x0D4).extractLsb' 0 13 = s.rx.wlen ∧ (s.regValue 0x0D4).extractLsb' 16 12 = s.rx.half ∧
      s.regValue 0x0D4 &&& 0xF000E000 = 0 :=
  have ⟨hwlen, hhalf, _⟩ := windowWord_fields s.rx
  ⟨hwlen, hhalf, windowWord_unused s.rx⟩

/-- Settles O60: the shadow registers by their array, the other offsets by the lists of writable and readable ones. The
registers whose entry in the map is the register itself are `rfl`. -/
theorem shadowRegistersStoreAndOtherWritesAreIgnored : Obligations.ShadowRegistersStoreAndOtherWritesAreIgnored := by
  intro s v off halign hrange
  refine ⟨?shadow, ?ignored, ?read, fun h => regValue_of_unread h s, rfl, rfl, errWord_fields s,
    rfl, rfl, rfl, rfl, rfl, rfl, rfl, rfl, rfl, regValue_cfgFreq s, regValue_cfgFlags s,
    regValue_cfgFecStrength s, rfl, rfl, rfl, rfl, regValue_actFreq s, flagsWord_fields s.act, regValue_actFecStrength s,
    rfl, rfl, regValue_sps s, regValue_fcw s, rfl, rfl, rfl, regValue_timingErr s, regValue_modemStatus s,
    regValue_modemWindow s, rfl, rfl, rfl, rfl, rfl, rfl, rfl, rfl, rfl, rfl, rfl, rfl, rfl, rfl⟩
  case shadow =>
    intro hlo hhi
    have hcmd : off ≠ cmdOffset := (lt_of_lt_of_le (by decide) hlo).ne'
    obtain ⟨k, hk, rfl⟩ := shadow_offset_index halign hlo hhi
    refine ⟨s.regWrite (0x040 + 4 * k) v, serveAccess_write halign hrange hcmd v s, regWrite_shadow_frame s hk v,
      regValue_regWrite_shadow_same s hk v, fun o holo hohi hoalign hne => ?_⟩
    obtain ⟨j, hj, rfl⟩ := shadow_offset_index hoalign holo hohi
    exact regValue_regWrite_shadow_other s hk hj (by omega) v
  case ignored =>
    intro hshadow hother
    have hcmd : off ≠ cmdOffset := fun h => hother (by rw [h]; decide)
    rw [serveAccess_write halign hrange hcmd, regWrite_of_not_writable (not_writable_of_outside hshadow hother)]
  case read =>
    intro hport
    rw [serveAccess_read halign hrange, readEffect_of_not_port hport]

end Sys2Proof.Machine
end

section
/-! The encoding (spec/30_encoding.md rules R110 to R115): a command word is its two fields, and the decoder either gives the
command with these fields, or refuses a format Z opcode with a length, or refuses an opcode of no command. -/

namespace Sys2Proof

/-! ## The opcode map -/

/-- The opcodes of format Z (R113). -/
def formatZOpcodes : List Nat := [0x00, 0x01, 0x02, 0x10, 0x33, 0x35, 0x36, 0x37, 0x39, 0x42, 0x43]

/-- The opcodes of the 25 commands, format Z first (R113). -/
def assignedOpcodes : List Nat :=
  formatZOpcodes ++ [0x11, 0x12, 0x13, 0x20, 0x21, 0x22, 0x23, 0x30, 0x31, 0x32, 0x34, 0x38, 0x40, 0x41]

theorem Instr.opcode_mem_assignedOpcodes (i : Instr) : i.opcode ∈ assignedOpcodes := by
  cases i <;> simp [Instr.opcode, assignedOpcodes, formatZOpcodes]

theorem Instr.opcode_mem_formatZOpcodes_iff (i : Instr) : i.opcode ∈ formatZOpcodes ↔ i.format = .Z := by
  cases i <;> simp [Instr.opcode, Instr.format, formatZOpcodes]

theorem Instr.opcode_lt (i : Instr) : i.opcode < 2 ^ 8 :=
  have hsmall : ∀ c ∈ assignedOpcodes, c < 2 ^ 8 := by decide
  hsmall _ i.opcode_mem_assignedOpcodes

theorem Instr.len_of_formatZ {i : Instr} (h : i.format = .Z) : i.len = 0 := by
  cases i <;> simp_all [Instr.format, Instr.len]

/-! ## The two fields of a command word -/

theorem lenOf_lt (w : Word) : lenOf w < 2 ^ 24 := (w.extractLsb' 8 24).isLt

theorem lenOf_ne_zero_iff (w : Word) : lenOf w ≠ 0 ↔ w.extractLsb' 8 24 ≠ 0 := (BitVec.toNat_inj (y := 0)).not

/-- A command word is `(LEN << 8) | OPC` of its own fields (R112). -/
theorem append_fields (w : Word) : BitVec.ofNat 24 (lenOf w) ++ BitVec.ofNat 8 (opcOf w).toNat = w := by
  rw [lenOf, opcOf, BitVec.ofNat_toNat, BitVec.ofNat_toNat, BitVec.setWidth_eq, BitVec.setWidth_eq]
  rw [BitVec.extractLsb'_append_extractLsb'_eq_extractLsb' (by rfl)]
  exact BitVec.extractLsb'_eq_self

theorem encode_of_fields {w : Word} {i : Instr} (hopc : i.opcode = (opcOf w).toNat) (hlen : i.len = lenOf w) :
    encode i = w := by
  rw [encode, hopc, hlen, append_fields]

/-! ## The decoder -/

/-- The three answers a decoder can give on the fields of a word, each with its reason (R114, R115). -/
inductive DecodeAnswer (opc len : Nat) : Except DecodeError Instr → Prop
  | command (i : Instr) (hopc : i.opcode = opc) (hlen : i.len = len) : DecodeAnswer opc len (.ok i)
  | nonzeroUpper (hz : opc ∈ formatZOpcodes) (hlen : len ≠ 0) : DecodeAnswer opc len (.error .nonzeroUpper)
  | unassignedOpcode (hopc : opc ∉ assignedOpcodes) : DecodeAnswer opc len (.error .unassignedOpcode)

/-- The row of a format Z command. -/
theorem decodeZ_answer {i : Instr} {opc len : Nat} (hopc : i.opcode = opc) (hz : i.format = .Z) :
    DecodeAnswer opc len (decodeZ len i) := by
  by_cases h : len = 0
  · rw [decodeZ, if_pos h]
    exact .command i hopc ((Instr.len_of_formatZ hz).trans h.symm)
  · rw [decodeZ, if_neg h]
    exact .nonzeroUpper (hopc ▸ i.opcode_mem_formatZOpcodes_iff.mpr hz) h

/-- The decoder row by row: format Z, then no command, then a command with a length. -/
theorem decodeFields_answer (opc len : Nat) : DecodeAnswer opc len (decodeFields opc len) := by
  fun_cases decodeFields opc len
  case case1 | case2 | case3 | case4 | case15 | case17 | case18 | case19 | case21 | case24 | case25 =>
    exact decodeZ_answer rfl rfl
  case case26 => exact .unassignedOpcode (by simp_all [assignedOpcodes, formatZOpcodes])
  all_goals exact .command _ rfl rfl

theorem decode_answer (w : Word) : DecodeAnswer (opcOf w).toNat (lenOf w) (decode w) := decodeFields_answer _ _

theorem decodeFields_opcode_len (i : Instr) : decodeFields i.opcode i.len = .ok i := by
  cases i <;> rfl

/-- Decoding the word of a well-formed command gives the command back (R115). -/
theorem decode_encode {i : Instr} (h : i.WellFormed) : decode (encode i) = .ok i := by
  obtain ⟨hopc, hlen⟩ := Laws.fields_of_encode i h
  have hcode : (opcOf (encode i)).toNat = i.opcode := by
    rw [hopc, BitVec.toNat_ofNat, Nat.mod_eq_of_lt i.opcode_lt]
  rw [decode, hcode, hlen, decodeFields_opcode_len]

/-- A word that decodes is the word of a well-formed command (R110, R115). -/
theorem encode_of_decode {w : Word} {i : Instr} (h : decode w = .ok i) : i.WellFormed ∧ encode i = w := by
  have hans := decode_answer w
  rw [h] at hans
  cases hans with
  | command _ hopc hlen => exact ⟨hlen.trans_lt (lenOf_lt w), encode_of_fields hopc hlen⟩

theorem decode_eq_ok_iff {w : Word} {i : Instr} : decode w = .ok i ↔ i.WellFormed ∧ encode i = w :=
  ⟨encode_of_decode, fun ⟨hwf, henc⟩ => henc ▸ decode_encode hwf⟩

/-- Settles O1: the decoder and the encoder are each other's inverse on the fields of the word. -/
theorem decodeAndEncodeAreInverse : Obligations.DecodeAndEncodeAreInverse :=
  ⟨fun _ => decode_encode, fun _ _ => encode_of_decode⟩

/-! ## Illegal words -/

/-- Which words are illegal (R114). -/
theorem decode_error_iff (w : Word) :
    (∃ e, decode w = .error e) ↔
      (opcOf w).toNat ∉ assignedOpcodes ∨ ((opcOf w).toNat ∈ formatZOpcodes ∧ lenOf w ≠ 0) := by
  have hans := decode_answer w
  cases hd : decode w with
  | ok i =>
    rw [hd] at hans
    cases hans with
    | command _ hopc hlen =>
      rw [← hopc, ← hlen, i.opcode_mem_formatZOpcodes_iff]
      have hlegal : ¬(i.opcode ∉ assignedOpcodes ∨ (i.format = .Z ∧ i.len ≠ 0)) := by
        rintro (hnone | ⟨hz, hne⟩)
        · exact hnone i.opcode_mem_assignedOpcodes
        · exact hne (Instr.len_of_formatZ hz)
      exact iff_of_false (fun ⟨_, he⟩ => nomatch he) hlegal
  | error e =>
    rw [hd] at hans
    refine iff_of_true ⟨e, rfl⟩ ?_
    cases hans with
    | nonzeroUpper hz hlen => exact .inr ⟨hz, hlen⟩
    | unassignedOpcode hopc => exact .inl hopc

/-- 231 of the 256 opcode values belong to no command (R114). -/
theorem unassignedOpcodes_length : ((List.range 256).filter (fun c => !assignedOpcodes.contains c)).length = 231 := by
  decide +kernel

/-- Settles O3: a legal word is the encoding of its command; the two illegal ones are read off their fields. -/
theorem sampleWordsDecodeAsTheOpcodeMapSays : Obligations.SampleWordsDecodeAsTheOpcodeMapSays := by
  refine ⟨?_, ?_, ?_, ?_, ?_, ?_, ?_, ?_, ?nonzeroUpper, ?unassigned⟩
  case nonzeroUpper => decide
  case unassigned => decide
  all_goals exact decode_eq_ok_iff.mpr (by decide)

end Sys2Proof
end

section
/-! What a write of an illegal word to `CMD` does (spec/30_encoding.md rule R114). -/

namespace Sys2Proof.Machine

theorem runCommand_of_decode_error {w : Word} {e : DecodeError} {s : State} (hbusy : s.host.busy = false)
    (hdec : decode w = .error e) : runCommand w s = .next (s.takeError .illegalCommand (opcOf w)) := by
  obtain ⟨hb, -⟩ | ⟨-, i, hi, -⟩ | ⟨-, _, -, hrun⟩ := runCommand_cases w s
  · simp [hbusy] at hb
  · simp [hdec] at hi
  · exact hrun

/-- Settles O2: the decoder's cases say which words are illegal, and the step runs the write to its error. -/
theorem illegalWordsRaiseAndChangeNothingElse : Obligations.IllegalWordsRaiseAndChangeNothingElse := by
  refine ⟨fun w => ?which, unassignedOpcodes_length, fun s rest w e hpending hbusy hdec => ?effect⟩
  case which =>
    rw [← lenOf_ne_zero_iff]
    exact decode_error_iff w
  case effect =>
    calc step s = serveAccess (.write cmdOffset 4 w) (s.takeAccess rest) := step_of_pending_cons hpending
      _ = runCommand w (s.takeAccess rest) := serveAccess_command w _
      _ = .next ((s.takeAccess rest).takeError .illegalCommand (opcOf w)) := runCommand_of_decode_error hbusy hdec

end Sys2Proof.Machine
end

section
/-! The configuration (spec/40_config.md rules R140 to R148): how success and a raised error end a command, and what
validation and activation come to in the words of the rules. -/

namespace Sys2Proof.Machine

/-! ## How a command ends -/

theorem exec_of_success {i : Instr} {s t : State} (hformat : i.format ≠ .LD)
    (hbody : bodyOf i [] s.clearResults = .success t) : exec i s = .next t.endSuccess := by
  rw [exec_eq, if_neg hformat, runZ_eq, hbody]
  rfl

theorem exec_of_raised {i : Instr} {s : State} {e : CmdError} {d : Byte} (hformat : i.format ≠ .LD)
    (hbody : bodyOf i [] s.clearResults = .raised e d) : exec i s = .next (s.raisedZ e.code d) := by
  rw [exec_eq, if_neg hformat, runZ_eq, hbody]
  rfl

theorem exec_of_raised_LD {i : Instr} {s : State} {e : CmdError} {d : Byte} (hformat : i.format = .LD)
    (hlen : s.host.din.length = i.len) (hbody : bodyOf i s.host.din (s.setDin []).clearResults = .raised e d) :
    exec i s = .next (s.raisedLD e.code d) := by
  rw [exec_eq, if_pos hformat, runLD_of_eq _ s _ hlen, runZ_eq, hbody]
  rfl

/-- Settles O19: each body is one update of the state, and the end of the command clears `ERR`. -/
theorem nopFlushAndModemResetDoExactlyThis : Obligations.NopFlushAndModemResetDoExactlyThis := by
  intro s
  refine ⟨?nop, ?flush, ?reset⟩
  case nop => exact exec_of_success (i := .nop) (t := s.clearResults) nofun rfl
  case flush => exact exec_of_success (i := .dioFlush) nofun rfl
  case reset => exact exec_of_success (i := .modemReset) (t := s.clearResults.modemReset) nofun rfl

/-! ## The tones -/

@[simp] theorem Tones.get_map {α β : Type} (f : α → β) (x : Tones α) (k : Symbol) : (x.map f).get k = f (x.get k) := by
  fin_cases k <;> rfl

/-- A statement on all four tones, tone by tone. -/
theorem Tones.forall_get {α : Type} {P : α → Prop} {x : Tones α} :
    (∀ k, P (x.get k)) ↔ P x.t0 ∧ P x.t1 ∧ P x.t2 ∧ P x.t3 := by
  simp [Fin.forall_fin_succ, Tones.get]

theorem Tones.eq_iff_get {α : Type} {x y : Tones α} : x = y ↔ ∀ k, x.get k = y.get k := by
  constructor
  · rintro rfl k
    rfl
  · intro h
    cases x
    cases y
    simp only [Tones.mk.injEq]
    exact ⟨h 0, h 1, h 2, h 3⟩

/-- The second check of R143 in its own words. -/
theorem freqsOk_iff {f : Tones Word} :
    freqsOk f = true ↔ (∀ k, f.get k ≠ 0) ∧ ∀ j k, j ≠ k → f.get j ≠ f.get k := by
  have hdistinct : (∀ j k, j ≠ k → f.get j ≠ f.get k) ↔
      f.t0 ≠ f.t1 ∧ f.t0 ≠ f.t2 ∧ f.t0 ≠ f.t3 ∧ f.t1 ≠ f.t2 ∧ f.t1 ≠ f.t3 ∧ f.t2 ≠ f.t3 := by
    constructor
    · intro h
      exact ⟨h 0 1 (by decide), h 0 2 (by decide), h 0 3 (by decide), h 1 2 (by decide), h 1 3 (by decide),
        h 2 3 (by decide)⟩
    · rintro ⟨h01, h02, h03, h12, h13, h23⟩
      have hlt : ∀ j k : Symbol, j < k → f.get j ≠ f.get k := by
        simp [Fin.forall_fin_succ, Tones.get, h01, h02, h03, h12, h13, h23]
      intro j k hne
      obtain hjk | hkj := lt_or_gt_of_ne hne
      · exact hlt j k hjk
      · exact (hlt k j hkj).symm
  rw [hdistinct, Tones.forall_get (P := (· ≠ 0)), freqsOk, decide_eq_true_iff]
  tauto

/-! ## Derived registers -/

theorem fcwOf_toNat (fs f : Word) : (fcwOf fs f).toNat = f.toNat * 2 ^ 32 / fs.toNat % 2 ^ 32 := BitVec.toNat_ofNat _ _

/-- The tracking guard in the words of R146. -/
theorem trackGuard_iff {sps : Nat} {fcw : Tones Word} :
    trackGuard sps fcw = true ↔ 16 ≤ sps ∧ ∀ k, 2 ^ 34 ≤ trackDist (fcw.get k) * (sps / 2) := by
  rw [Tones.forall_get (P := fun w => 2 ^ 34 ≤ trackDist w * (sps / 2))]
  simp only [trackGuard, toneTracks, Bool.and_eq_true, decide_eq_true_iff, and_assoc]
  rfl

/-- "Changed" in the words of R142: not configured yet, another rate, or another frequency. -/
theorem modemChanged_iff {c : ShadowCfg} {a : ActiveCfg} :
    modemChanged c a = true ↔ a.cfgValid = false ∨ c.sampleRate ≠ a.sampleRate ∨ c.symbolRate ≠ a.symbolRate ∨
      ∃ k, c.freq.get k ≠ a.freq.get k := by
  rw [modemChanged, decide_eq_true_iff, ne_eq c.freq, Tones.eq_iff_get, not_forall]

/-! ## Validation -/

/-- The first check of R143. -/
def ShadowCfg.RatesOk (c : ShadowCfg) : Prop := c.sampleRate.toNat ≠ 0 ∧ c.symbolRate.toNat ≠ 0

/-- The second check of R143. -/
def ShadowCfg.FreqsOk (c : ShadowCfg) : Prop :=
  (∀ k, c.freq.get k ≠ 0) ∧ ∀ j k, j ≠ k → c.freq.get j ≠ c.freq.get k

/-- The third check of R143. -/
def ShadowCfg.RangeOk (c : ShadowCfg) : Prop :=
  1 ≤ spsOf c.sampleRate c.symbolRate ∧ spsOf c.sampleRate c.symbolRate ≤ 4096

section
variable {c : ShadowCfg}

theorem ratesOk_iff : c.RatesOk ↔ ¬(c.sampleRate = 0 ∨ c.symbolRate = 0) :=
  (and_congr (BitVec.toNat_ne_iff_ne (y := 0)) (BitVec.toNat_ne_iff_ne (y := 0))).trans not_or.symm

theorem freqsOk_false_iff : freqsOk c.freq = false ↔ ¬c.FreqsOk := by
  rw [ShadowCfg.FreqsOk, ← freqsOk_iff, Bool.not_eq_true]

theorem rangeOk_iff :
    c.RangeOk ↔ ¬(spsOf c.sampleRate c.symbolRate < 1 ∨ spsMax < spsOf c.sampleRate c.symbolRate) := by
  rw [ShadowCfg.RangeOk, not_or, not_lt, not_lt, spsMax]

/-! ### The first failing check

Each check of R143 is the first to fail, or none fails. -/

theorem ShadowCfg.invalid_of_rates (hrates : ¬c.RatesOk) : c.invalid = some 1 :=
  if_pos (not_not.mp (ratesOk_iff.not.mp hrates))

theorem ShadowCfg.invalid_of_freqs (hrates : c.RatesOk) (hfreqs : ¬c.FreqsOk) : c.invalid = some 2 := by
  rw [invalid, if_neg (ratesOk_iff.mp hrates), if_pos (freqsOk_false_iff.mpr hfreqs)]

theorem ShadowCfg.invalid_of_range (hrates : c.RatesOk) (hfreqs : c.FreqsOk) (hrange : ¬c.RangeOk) :
    c.invalid = some 3 := by
  rw [invalid, if_neg (ratesOk_iff.mp hrates), if_neg (freqsOk_false_iff.not.mpr (not_not.mpr hfreqs)),
    if_pos (not_not.mp (rangeOk_iff.not.mp hrange))]

theorem ShadowCfg.invalid_of_strength (hrates : c.RatesOk) (hfreqs : c.FreqsOk) (hrange : c.RangeOk)
    (hstrength : c.fecStrength ≠ 32) : c.invalid = some 4 := by
  rw [invalid, if_neg (ratesOk_iff.mp hrates), if_neg (freqsOk_false_iff.not.mpr (not_not.mpr hfreqs)),
    if_neg (rangeOk_iff.mp hrange), if_pos hstrength]

theorem ShadowCfg.invalid_of_valid (hrates : c.RatesOk) (hfreqs : c.FreqsOk) (hrange : c.RangeOk)
    (hstrength : c.fecStrength = 32) : c.invalid = none := by
  rw [invalid, if_neg (ratesOk_iff.mp hrates), if_neg (freqsOk_false_iff.not.mpr (not_not.mpr hfreqs)),
    if_neg (rangeOk_iff.mp hrange), if_neg (not_not.mpr hstrength)]

end

/-! ## SET_CONFIG -/

theorem setConfigBody_of_invalid {s : State} {d : Byte} (h : s.cfg.invalid = some d) :
    setConfigBody s = .raised .config d := by
  rw [setConfigBody, h]

theorem exec_setConfig_of_invalid {s : State} {d : Byte} (h : s.cfg.invalid = some d) :
    exec .setConfig s = .next (s.raisedZ 0x01 d) :=
  exec_of_raised (i := .setConfig) nofun (setConfigBody_of_invalid (s := s.clearResults) h)

/-- What the body of `SET_CONFIG` makes of the state on a valid shadow configuration (R142). -/
def State.reconfigured (s : State) : State :=
  let changed := modemChanged s.cfg s.act
  { s with
    act := s.cfg.activate
    tx := if changed then { s.tx with phase := 0 } else s.tx
    rx := if changed then rxAfterReset s.cfg.activate s.rx else s.rx
    host := { s.host with
      result0 := BitVec.ofNat 32 (spsOf s.cfg.sampleRate s.cfg.symbolRate)
      result1 := if changed then 1 else 0 } }

theorem setConfigBody_of_valid {s : State} (h : s.cfg.invalid = none) : setConfigBody s = .success s.reconfigured := by
  cases hchanged : modemChanged s.cfg s.act with
  | true =>
    simp only [setConfigBody, h, State.reconfigured, hchanged]
    rfl
  | false =>
    simp only [setConfigBody, h, State.reconfigured, hchanged]
    rfl

theorem exec_setConfig_of_valid {s : State} (h : s.cfg.invalid = none) :
    exec .setConfig s = .next s.reconfigured.endSuccess :=
  exec_of_success (i := .setConfig) nofun (setConfigBody_of_valid (s := s.clearResults) h)

/-- Settles O21: the first failing check gives validation its answer, and the body raises it. -/
theorem setConfigFirstFailingCheckDecides : Obligations.SetConfigFirstFailingCheckDecides := by
  intro s
  refine ⟨fun hrates => ?rates, fun hrates hfreqs => ?freqs, fun hrates hfreqs hrange => ?range,
    fun hrates hfreqs hrange hstrength => ?strength⟩
  case rates => exact exec_setConfig_of_invalid (ShadowCfg.invalid_of_rates hrates)
  case freqs => exact exec_setConfig_of_invalid (ShadowCfg.invalid_of_freqs hrates hfreqs)
  case range => exact exec_setConfig_of_invalid (ShadowCfg.invalid_of_range hrates hfreqs hrange)
  case strength => exact exec_setConfig_of_invalid (ShadowCfg.invalid_of_strength hrates hfreqs hrange hstrength)

/-- Settles O20: the next state is read off field by field, and the derived fields are those of a valid configuration. -/
theorem setConfigActivatesAValidConfiguration : Obligations.SetConfigActivatesAValidConfiguration := by
  intro s fs q sps fcw dist changed hfs hq hnonzero hdistinct hmin hmax hstrength
  have hvalid : s.cfg.invalid = none :=
    ShadowCfg.invalid_of_valid ⟨hfs, hq⟩ ⟨hnonzero, hdistinct⟩ ⟨hmin, hmax⟩ hstrength
  have hsps : s.cfg.activate.sps.toNat = sps := (configDerived_activate hvalid).sps
  have hfcw (k : Symbol) : (s.cfg.activate.fcw.get k).toNat = fcw k := by
    rw [(configDerived_activate hvalid).fcw, Tones.get_map]
    exact fcwOf_toNat _ _
  have hdist (k : Symbol) : trackDist (s.cfg.activate.fcw.get k) = dist k := by
    rw [trackDist, hfcw]
  have htrack : s.cfg.activate.trackEn = true ↔ 16 ≤ sps ∧ ∀ k, 2 ^ 34 ≤ dist k * (sps / 2) := by
    rw [(configDerived_activate hvalid).trackEn, trackGuard_iff, hsps]
    simp only [hdist]
  have hchanged : modemChanged s.cfg s.act = true ↔ changed := modemChanged_iff
  refine ⟨s.reconfigured.endSuccess, exec_setConfig_of_valid hvalid, rfl, rfl, rfl, rfl, rfl, rfl, rfl, rfl, rfl, hsps,
    hfcw, htrack, fun h => ?changed, fun h => ?unchanged, rfl, rfl, rfl, rfl, rfl, rfl, rfl, rfl, rfl⟩
  case changed =>
    have hmodem := hchanged.mpr h
    exact ⟨if_pos hmodem, if_pos hmodem, if_pos hmodem⟩
  case unchanged =>
    have hmodem := hchanged.not.mpr h
    exact ⟨if_neg hmodem, if_neg hmodem, if_neg hmodem⟩

end Sys2Proof.Machine
end

section
/-! The errors a command raises on the state and on its operand's length (spec/60_exceptions.md rules R351, R352, R354,
R360, R363): one equation for each body and each check that its other checks let through. -/

namespace Sys2Proof.Machine

variable {s : State} {operand : List Entry}

/-! ## No valid configuration: `ConfigError(6)` -/

section Unconfigured

variable {type : Byte} {payload : List Byte} (hvalid : s.act.cfgValid = false)
include hvalid

theorem modulateBody_of_unconfigured : modulateBody operand s = .raised .config 6 := if_pos hvalid

theorem demodulateBody_of_unconfigured : demodulateBody operand s = .raised .config 6 := if_pos hvalid

theorem samplesForBytesBody_of_unconfigured (n : Nat) : samplesForBytesBody n s = .raised .config 6 := if_pos hvalid

theorem txFrame_of_unconfigured : s.txFrame type payload = .raised .config 6 := if_pos hvalid

end Unconfigured

/-! ## A frame too long: `ConfigError(5)` with FEC, `ConfigError(7)` without -/

theorem txFrame_of_long_with_fec {type : Byte} {payload : List Byte} (hvalid : s.act.cfgValid = true)
    (hfec : s.act.fecEn = true) (hlong : 223 < payload.length + 1 + s.params.aeadOverhead) :
    s.txFrame type payload = .raised .config 5 := by
  unfold State.txFrame
  dsimp only
  rw [if_neg (by simp [hvalid]), if_pos ⟨hfec, hlong⟩]

theorem txFrame_of_long_without_fec {type : Byte} {payload : List Byte} (hvalid : s.act.cfgValid = true)
    (hfec : s.act.fecEn = false) (hlong : 255 < payload.length + 1 + s.params.aeadOverhead) :
    s.txFrame type payload = .raised .config 7 := by
  unfold State.txFrame
  dsimp only
  rw [if_neg (by simp [hvalid]), if_neg (by simp [hfec]), if_pos ⟨hfec, hlong⟩]

/-! ## The frame commands of an established session -/

section Established

variable {e : CmdError} {d : Byte} (hstate : s.sess.state = .established)
include hstate

theorem feedMicFrameBody_of_established : feedMicFrameBody operand s = s.txFrame 0x00 (operandBytes operand) :=
  if_neg (not_not.mpr hstate)

theorem feedMicFrameBody_of_txFrame_raised (hraised : s.txFrame 0x00 (operandBytes operand) = .raised e d) :
    feedMicFrameBody operand s = .raised e d :=
  (feedMicFrameBody_of_established hstate).trans hraised

theorem sendHangupBody_of_txFrame_raised (hraised : s.txFrame 0x01 [] = .raised e d) :
    sendHangupBody s = .raised e d := by
  rw [sendHangupBody, if_neg (not_not.mpr hstate), hraised, Verdict.andThen]

theorem handleIncomingFrameBody_of_unconfigured (hvalid : s.act.cfgValid = false) :
    handleIncomingFrameBody operand s = .raised .config 6 := by
  rw [handleIncomingFrameBody, if_neg (not_not.mpr hstate), if_pos hvalid]

end Established

/-! ## Keys of a wrong length: `KeyError` -/

theorem initializeBody_of_length (hlen : operand.length ≠ 32) : initializeBody operand s = .raised .key 1 := if_pos hlen

theorem derivePubkeyBody_of_length (hlen : operand.length ≠ 32) : derivePubkeyBody operand s = .raised .key 1 :=
  if_pos hlen

theorem startBody_of_length (role : Role) (hlen : operand.length ≠ 32) (hstate : s.sess.state = .idle) :
    startBody role operand s = .raised .key 2 := by
  rw [startBody, if_neg (not_not.mpr hstate)]
  exact if_pos hlen

/-! ## The codec's lengths and the mailbox -/

theorem fecEncodeBody_of_long (hlen : 223 < operand.length) : fecEncodeBody operand s = .raised .config 5 := if_pos hlen

theorem fecDecodeBody_of_length (hlen : operand.length < 32 ∨ 255 < operand.length) :
    fecDecodeBody operand s = .raised .frame 1 :=
  if_pos hlen

theorem hsWriteBody_of_mailbox_full (hstate : s.sess.state = .handshaking) (hfull : s.sess.hsOutValid = true) :
    hsWriteBody operand s = .raised .mailboxBusy 0 := by
  rw [hsWriteBody, if_neg (not_not.mpr hstate), if_pos hfull]

/-! ## Every command -/

/-- Settles O54: each body raises its error, in the state with the operand taken and the results cleared. -/
theorem operandAndConfigurationErrorsAreRaised : Obligations.OperandAndConfigurationErrorsAreRaised := by
  intro s len m
  have raises (i : Instr) (e : CmdError) (d : Byte) (hformat : i.format = .LD) (hlen : i.len = len)
      (hbody : bodyOf i s.host.din (s.setDin []).clearResults = .raised e d) : exec i s = .next (s.raisedLD e.code d) :=
    exec_of_raised_LD hformat hlen.symm hbody
  refine ⟨fun hvalid => ⟨?modulate, ?demodulate, fun n => ?samples, fun hstate => ⟨?feed, ?incoming, ?hangup⟩⟩,
    fun hlen => ⟨?identity, ?derive, fun hstate => ⟨?server, ?client⟩⟩, fun hlen => ?encode, fun hlen => ?decode,
    fun hstate hfull => ?write, fun hstate hvalid => ⟨fun hfec hlong => ?withFec, fun hfec hlong => ?withoutFec⟩⟩
  case modulate => exact raises (.modulate len) .config 6 rfl rfl (modulateBody_of_unconfigured hvalid)
  case demodulate => exact raises (.demodulate len) .config 6 rfl rfl (demodulateBody_of_unconfigured hvalid)
  case samples => exact exec_of_raised (i := .samplesForBytes n) nofun (samplesForBytesBody_of_unconfigured hvalid n)
  case feed =>
    exact raises (.feedMicFrame len) .config 6 rfl rfl
      (feedMicFrameBody_of_txFrame_raised hstate (txFrame_of_unconfigured hvalid))
  case incoming =>
    exact raises (.handleIncomingFrame len) .config 6 rfl rfl (handleIncomingFrameBody_of_unconfigured hstate hvalid)
  case hangup =>
    exact exec_of_raised (i := .sendHangup) (e := .config) nofun
      (sendHangupBody_of_txFrame_raised hstate (txFrame_of_unconfigured hvalid))
  case identity => exact raises (.initializeSession len) .key 1 rfl rfl (initializeBody_of_length hlen)
  case derive => exact raises (.derivePubkey len) .key 1 rfl rfl (derivePubkeyBody_of_length hlen)
  case server => exact raises (.startServer len) .key 2 rfl rfl (startBody_of_length .server hlen hstate)
  case client => exact raises (.startClient len) .key 2 rfl rfl (startBody_of_length .client hlen hstate)
  case encode => exact raises (.fecEncode len) .config 5 rfl rfl (fecEncodeBody_of_long hlen)
  case decode => exact raises (.fecDecode len) .frame 1 rfl rfl (fecDecodeBody_of_length hlen)
  case write => exact raises (.hsWrite len) .mailboxBusy 0 rfl rfl (hsWriteBody_of_mailbox_full hstate hfull)
  case withFec =>
    exact raises (.feedMicFrame len) .config 5 rfl rfl
      (feedMicFrameBody_of_txFrame_raised hstate (txFrame_of_long_with_fec hvalid hfec (by rwa [operandBytes_length])))
  case withoutFec =>
    exact raises (.feedMicFrame len) .config 7 rfl rfl
      (feedMicFrameBody_of_txFrame_raised hstate (txFrame_of_long_without_fec hvalid hfec (by rwa [operandBytes_length])))

end Sys2Proof.Machine
end

section
/-! The correlators and their sums (spec/41_modem.md rules R160, R161, R170, R185): a sample adds one exact product to each of
two sums, no product exceeds `2^29`, and so no sum exceeds `CLK * 2^29` under any step. -/

namespace Sys2Proof.Machine

/-! ## No entry of the ROM exceeds `2^14` -/

theorem forall_getD {α : Type} {P : α → Prop} {l : List α} {d : α} (hl : ∀ x ∈ l, P x) (hd : P d) (i : Nat) :
    P (l.getD i d) := by
  rw [List.getD_eq_getElem?_getD]
  cases h : l[i]? with
  | none => exact hd
  | some x => exact hl x (List.mem_of_getElem? h)

theorem qwRows_le : ∀ row ∈ qwRows, ∀ v ∈ row, v ≤ 2 ^ 14 := by decide

theorem qw_natAbs_le (k : Nat) : (qw k).natAbs ≤ 2 ^ 14 := by
  rw [qw, Int.natAbs_natCast]
  have hrow : ∀ v ∈ qwRows.getD (k / 16) [], v ≤ 2 ^ 14 := forall_getD qwRows_le (List.forall_mem_nil _) _
  exact forall_getD hrow (Nat.zero_le _) _

theorem rom_natAbs_le (k : Nat) : (rom k).natAbs ≤ 2 ^ 14 := by
  unfold rom
  split_ifs
  · exact qw_natAbs_le _
  · exact qw_natAbs_le _
  · rw [Int.natAbs_neg]; exact qw_natAbs_le _
  · rw [Int.natAbs_neg]; exact qw_natAbs_le _

theorem entry_toInt_natAbs_le (x : Entry) : x.toInt.natAbs ≤ 2 ^ 15 := by
  have := x.le_toInt
  have := x.toInt_lt
  omega

/-- A sample times a ROM entry (R185). -/
theorem product_natAbs_le {x y : Int} (hx : x.natAbs ≤ 2 ^ 15) (hy : y.natAbs ≤ 2 ^ 14) : (x * y).natAbs ≤ 2 ^ 29 := by
  calc (x * y).natAbs
    _ = x.natAbs * y.natAbs := Int.natAbs_mul x y
    _ ≤ 2 ^ 15 * 2 ^ 14 := Nat.mul_le_mul hx hy
    _ = 2 ^ 29 := rfl

/-! ## One sample -/

@[simp] theorem Tones.get_zip {α β γ : Type} (f : α → β → γ) (x : Tones α) (y : Tones β) (k : Symbol) :
    (x.zip f y).get k = f (x.get k) (y.get k) := by
  fin_cases k <;> rfl

/-- Every sum of every tone is within `CLK * 2^29` (R185). -/
def ModemRx.SumsBounded (rx : ModemRx) : Prop := ∀ k : Symbol, (rx.cor.get k).Bounded rx.clk.toNat

theorem sumsBounded_of_cleared {rx : ModemRx} (h : rx.cor = .all .zero) : rx.SumsBounded := by
  intro k
  rw [h, Tones.get_all]
  constructor <;> exact Nat.zero_le _

/-- A sum within its bound takes one more product exactly: 48 bits are enough (R185). -/
theorem accOf_add {acc : Acc} {n : Nat} {p : Int} (hacc : acc.toInt.natAbs ≤ n * 2 ^ 29) (hn : n < 2 ^ 13)
    (hp : p.natAbs ≤ 2 ^ 29) : (accOf (acc.toInt + p)).toInt = acc.toInt + p :=
  BitVec.toInt_ofInt_eq_self (by decide) (by omega) (by omega)

theorem correlate_get (rx : ModemRx) (act : ActiveCfg) (x : Int) (k : Symbol) :
    (rx.correlate act x).cor.get k =
      (rx.cor.get k).sample (act.fcw.get k) x (decide (rx.clk.toNat < rx.half.toNat)) :=
  Tones.get_zip _ _ _ k

theorem correlate_clk {rx : ModemRx} (act : ActiveCfg) (x : Int) (hclk : rx.clk.toNat < rx.wlen.toNat) :
    (rx.correlate act x).clk.toNat = rx.clk.toNat + 1 := by
  have := rx.wlen.isLt
  exact BitVec.toNat_add_of_lt (x := rx.clk) (y := 1) (show rx.clk.toNat + 1 < 2 ^ 13 by omega)

/-- The machine's correlators do what R170 says in integers. -/
theorem correlate_sampleTaken {rx : ModemRx} {x : Int} (act : ActiveCfg) (hx : x.natAbs ≤ 2 ^ 15)
    (hclk : rx.clk.toNat < rx.wlen.toNat) (hsums : rx.SumsBounded) :
    SampleTaken act.fcw x rx (rx.correlate act x) := by
  have hn : rx.clk.toNat < 2 ^ 13 := rx.clk.isLt
  have hcos (k : Symbol) : (x * cosOf (rx.cor.get k).ph).natAbs ≤ 2 ^ 29 := product_natAbs_le hx (rom_natAbs_le _)
  have hsin (k : Symbol) : (x * sinOf (rx.cor.get k).ph).natAbs ≤ 2 ^ 29 := product_natAbs_le hx (rom_natAbs_le _)
  exact {
    first := fun hfirst k => by
      rw [correlate_get, decide_eq_true hfirst]
      exact ⟨accOf_add (hsums k).ia hn (hcos k), accOf_add (hsums k).qa hn (hsin k), rfl, rfl⟩
    second := fun hsecond k => by
      rw [correlate_get, decide_eq_false (not_lt.mpr hsecond)]
      exact ⟨rfl, rfl, accOf_add (hsums k).ib hn (hcos k), accOf_add (hsums k).qb hn (hsin k)⟩
    phase := fun k => by
      rw [correlate_get, Correlator.sample]
      split <;> rfl
    clk := correlate_clk act x hclk
    rest := rfl }

theorem natAbs_add_le_succ {v p : Int} {n : Nat} (hv : v.natAbs ≤ n * 2 ^ 29) (hp : p.natAbs ≤ 2 ^ 29) :
    (v + p).natAbs ≤ (n + 1) * 2 ^ 29 := by
  omega

/-- Each sum grows by at most one product, and `CLK` by one (R170, R185). -/
theorem SampleTaken.sumsBounded {fcw : Tones Word} {x : Int} {rx rx' : ModemRx} (h : SampleTaken fcw x rx rx')
    (hx : x.natAbs ≤ 2 ^ 15) (hsums : rx.SumsBounded) : rx'.SumsBounded := by
  intro k
  have hcos : (x * cosOf (rx.cor.get k).ph).natAbs ≤ 2 ^ 29 := product_natAbs_le hx (rom_natAbs_le _)
  have hsin : (x * sinOf (rx.cor.get k).ph).natAbs ≤ 2 ^ 29 := product_natAbs_le hx (rom_natAbs_le _)
  have kept {v : Int} (hv : v.natAbs ≤ rx.clk.toNat * 2 ^ 29) : v.natAbs ≤ (rx.clk.toNat + 1) * 2 ^ 29 :=
    hv.trans (Nat.mul_le_mul_right _ (Nat.le_succ _))
  obtain ⟨hia, hqa, hib, hqb⟩ := hsums k
  rw [h.clk]
  obtain hfirst | hsecond := lt_or_ge rx.clk.toNat rx.half.toNat
  · obtain ⟨hia', hqa', hib', hqb'⟩ := h.first hfirst k
    exact {
      ia := hia' ▸ natAbs_add_le_succ hia hcos
      qa := hqa' ▸ natAbs_add_le_succ hqa hsin
      ib := hib' ▸ kept hib
      qb := hqb' ▸ kept hqb }
  · obtain ⟨hia', hqa', hib', hqb'⟩ := h.second hsecond k
    exact {
      ia := hia' ▸ kept hia
      qa := hqa' ▸ kept hqa
      ib := hib' ▸ natAbs_add_le_succ hib hcos
      qb := hqb' ▸ natAbs_add_le_succ hqb hsin }

/-! ## The sums under every step -/

theorem windowEnd_cor (rx : ModemRx) (act : ActiveCfg) : (rx.windowEnd act).1.cor = .all .zero := rfl

theorem sample_sumsBounded {a : ActiveCfg} {rx : ModemRx} (hclk : rx.clk.toNat < rx.wlen.toNat) (hsums : rx.SumsBounded)
    (x : Entry) : (rx.sample a x.toInt).1.SumsBounded := by
  unfold ModemRx.sample
  dsimp only
  split
  · exact sumsBounded_of_cleared (windowEnd_cor _ _)
  · have hx := entry_toInt_natAbs_le x
    exact (correlate_sampleTaken a hx hclk hsums).sumsBounded hx hsums

theorem rxSamples_sumsBounded {a : ActiveCfg} {rx : ModemRx} (hmin : 1 ≤ a.sps.toNat) (hmax : a.sps.toNat ≤ 4096)
    (hwindow : WindowBounds a rx) (hsums : rx.SumsBounded) (xs : List Entry) : (rxSamples a xs rx).1.SumsBounded := by
  induction xs generalizing rx with
  | nil => exact hsums
  | cons x xs ih => exact ih (hwindow.sample hmin hmax x.toInt) (sample_sumsBounded hwindow.clk hsums x)

/-- Until a configuration is valid R67 (3) says nothing, and only `SET_CONFIG` makes one valid. -/
theorem ModemConsistent.edit {s t : State} (he : s.Edit t) (h : ModemConsistent s) : ModemConsistent t := by
  by_cases hvalid : s.act.cfgValid = true
  · obtain ⟨hcfg, hwindow⟩ := h hvalid
    exact ((modemSound_of_valid hvalid hcfg hwindow).edit he).1
  · cases he with
    | reconfigure hcfg =>
      have hnew := configDerived_activate hcfg
      exact fun _ => ⟨hnew, { windowBounds_nominal hnew.spsMin hnew.spsMax s.rx with }⟩
    | activate hcfg hsame => simp [modemChanged, hvalid] at hsame
    | _ => exact fun ht => absurd ht hvalid

/-- Samples add to the sums within their bound; every restart of the window clears them. -/
theorem AccumulatorsBounded.edit {s t : State} (he : s.Edit t) (hmodem : ModemConsistent s) (h : AccumulatorsBounded s) :
    AccumulatorsBounded t := by
  cases he with
  | receive samples hvalid =>
    obtain ⟨hcfg, hwindow⟩ := hmodem hvalid
    exact rxSamples_sumsBounded hcfg.spsMin hcfg.spsMax hwindow h samples
  | realign => exact sumsBounded_of_cleared (rx := s.rx.realign _) rfl
  | modemReset => exact sumsBounded_of_cleared (rx := s.rx.modemReset _) rfl
  | reconfigure => exact sumsBounded_of_cleared (rx := s.rx.modemReset _) rfl
  | _ => exact h

/-- R67 (3) and the bound of R185, which needs it. -/
def CorrelatorsSound (s : State) : Prop := ModemConsistent s ∧ AccumulatorsBounded s

theorem correlatorsSound_seesOnly : SeesOnly State.modemView CorrelatorsSound := by
  intro s t hview h
  obtain ⟨hact, -, hrx⟩ : t.act = s.act ∧ t.tx = s.tx ∧ t.rx = s.rx := by simpa [State.modemView] using hview
  unfold CorrelatorsSound ModemConsistent AccumulatorsBounded
  rw [hact, hrx]
  exact h

theorem correlatorsSound_keptByParts : KeptByParts CorrelatorsSound :=
  .of_view correlatorsSound_seesOnly (fun _ _ _ _ _ _ => rfl) (fun he h => ⟨h.1.edit he, h.2.edit he h.1⟩)
    fun _ => ⟨modemConsistent_resetWith _, accumulatorsBounded_resetWith _⟩

/-- Settles O12: a sum takes at most one product a sample, and a window restarts with cleared sums. -/
theorem stepKeepsAccumulatorsBounded : Obligations.StepKeepsAccumulatorsBounded := fun _ _ hmodem hsums hstep =>
  (correlatorsSound_keptByParts.step ⟨hmodem, hsums⟩ hstep).2

end Sys2Proof.Machine
end

section
/-! What one window end decides (spec/41_modem.md rules R171 to R177): the symbol, the lock, the byte. -/

namespace Sys2Proof.Machine

/-! ## The symbol decision -/

theorem decideSymbol_eq_zero {e : Tones Int} (h : ∀ j, e.get j ≤ e.get 0) : decideSymbol e = 0 :=
  if_pos ⟨h 1, h 2, h 3⟩

/-- No tone has more energy than the decided one, and every tone before it has less (R172). -/
theorem decideSymbol_spec (e : Tones Int) :
    (∀ j, e.get j ≤ e.get (decideSymbol e)) ∧ ∀ j < decideSymbol e, e.get j < e.get (decideSymbol e) := by
  unfold decideSymbol
  split_ifs
  all_goals
    simp [Fin.forall_fin_succ, Tones.get]
    omega

theorem decideSymbol_le {e : Tones Int} {k : Symbol} (hk : ∀ j, e.get j ≤ e.get k) : decideSymbol e ≤ k := by
  obtain ⟨-, hfirst⟩ := decideSymbol_spec e
  by_contra hlt
  exact absurd (hfirst k (not_le.mp hlt)) (not_lt.mpr (hk _))

/-- Settles O27: among equal largest energies the decision takes the first tone, for silence tone 0. -/
theorem symbolDecisionIsTheSmallestMaximum : Obligations.SymbolDecisionIsTheSmallestMaximum := by
  refine ⟨fun e => ⟨(decideSymbol_spec e).1, fun k hk => decideSymbol_le hk⟩, ?_⟩
  exact decideSymbol_eq_zero fun j => by rw [Tones.get_all, Tones.get_all]

/-! ## The byte assembler -/

/-- `SHREG` shifted by two with the symbol in its low bits (R176). -/
theorem shifted_eq (sh : Byte) (sym : Symbol) :
    (sh <<< 2) ||| BitVec.ofNat 8 sym.val = BitVec.ofNat 8 (4 * sh.toNat + sym.val) := by
  apply BitVec.eq_of_toNat_eq
  have hlow : sym.val % 2 ^ 8 = sym.val := Nat.mod_eq_of_lt (by omega)
  have hshift : sh.toNat <<< 2 % 2 ^ 8 = 2 ^ 2 * (sh.toNat % 2 ^ 6) := by rw [Nat.shiftLeft_eq]; omega
  rw [BitVec.toNat_or, BitVec.toNat_shiftLeft, BitVec.toNat_ofNat, BitVec.toNat_ofNat, hlow, hshift,
    ← Nat.two_pow_add_eq_or_of_lt sym.isLt]
  omega

/-- A symbol that does not complete a byte is shifted into `SHREG` (R176). -/
theorem assemble_of_partial {rx : ModemRx} (h : rx.nsym.toNat ≠ 3) (sym : Symbol) :
    rx.assemble sym =
      ({ rx with
        symbolsRx := satInc rx.symbolsRx
        shreg := BitVec.ofNat 8 (4 * rx.shreg.toNat + sym.val)
        nsym := rx.nsym + 1 }, none) := by
  have hmore : rx.nsym.toNat + 1 ≠ 4 := by omega
  rw [ModemRx.assemble, if_neg hmore, shifted_eq]

/-- The fourth symbol completes the byte (R176). -/
theorem assemble_of_full {rx : ModemRx} (h : rx.nsym.toNat = 3) (sym : Symbol) :
    rx.assemble sym =
      ({ rx with symbolsRx := satInc rx.symbolsRx, shreg := 0, nsym := 0 },
        some (BitVec.ofNat 8 (4 * rx.shreg.toNat + sym.val))) := by
  have hlast : rx.nsym.toNat + 1 = 4 := by omega
  rw [ModemRx.assemble, if_pos hlast, shifted_eq]

theorem satInc_satInc (c : Word) (m n : Nat) : satInc (satInc c m) n = satInc c (m + n) := by
  apply BitVec.eq_of_toNat_eq
  simp only [satInc_toNat]
  omega

/-- The two bits of a byte that the modulator sends as symbol `i` of four (R162). -/
def byteSymbol (b : Byte) (i : Nat) : Symbol := Fin.ofNat 4 (b.toNat / 4 ^ (3 - i))

theorem byteSymbols_eq (b : Byte) :
    byteSymbols b = [byteSymbol b 0, byteSymbol b 1, byteSymbol b 2, byteSymbol b 3] := by
  simp [byteSymbols, byteSymbol]

theorem byte_eq_of_symbols (b : Byte) :
    b.toNat = 64 * (byteSymbol b 0).val + 16 * (byteSymbol b 1).val + 4 * (byteSymbol b 2).val + (byteSymbol b 3).val := by
  have := b.isLt
  simp only [byteSymbol, Fin.val_ofNat]
  omega

/-- Settles O28: three symbols are shifted in, the fourth completes the byte they are the base-4 digits of. -/
theorem byteAssemblerMirrorsTheSymbolMapping : Obligations.ByteAssemblerMirrorsTheSymbolMapping := by
  intro rx b hn
  have hb := byte_eq_of_symbols b
  refine ⟨byteSymbol b 0, byteSymbol b 1, byteSymbol b 2, byteSymbol b 3, byteSymbols_eq b, hb, ?_⟩
  generalize byteSymbol b 0 = v0, byteSymbol b 1 = v1, byteSymbol b 2 = v2, byteSymbol b 3 = v3 at hb
  intro r0 r1 r2 r3
  have h0 : r0 = _ := assemble_of_partial (by simp [hn]) v0
  have h1 : r1 = _ := assemble_of_partial (by simp [h0, hn]) v1
  have h2 : r2 = _ := assemble_of_partial (by simp [h1, h0, hn]) v2
  have h3 : r3 = _ := assemble_of_full (by simp [h2, h1, h0, hn]) v3
  refine ⟨by rw [h0], by rw [h1], by rw [h2], ?_, ?_⟩
  · rw [h3, h2, h1, h0]
    refine congrArg some (BitVec.eq_of_toNat_eq ?_)
    simp only [BitVec.toNat_ofNat]
    omega
  · rw [h3, h2, h1, h0]
    simp only [satInc_satInc]
    rfl

/-! ## The lock detector -/

theorem goodWindow_iff (e : Tones Int) (sym : Symbol) (half : Nat) (te : Int) :
    goodWindow e sym half te = true ↔
      2 * (e.get 0 + e.get 1 + e.get 2 + e.get 3) < 3 * e.get sym ∧ te.natAbs < max 1 (half / 4) := by
  rw [goodWindow, Bool.and_eq_true, decide_eq_true_iff, decide_eq_true_iff]
  rfl

/-- `LOCKQ` stays in its four bits: it goes up by 1 to at most 15 and down by 2 to at least 0 (R175). -/
theorem lockqNext_eq (good : Bool) (q : BitVec 4) :
    ((BitVec.ofNat 4 (lockqNext good q.toNat)).toNat = lockqNext good q.toNat) ∧
    ((lockqNext good q.toNat : Nat) : Int) =
      if good then min ((q.toNat : Int) + 1) 15 else max ((q.toNat : Int) - 2) 0 := by
  have := q.isLt
  rw [BitVec.toNat_ofNat]
  cases good
  · simp [lockqNext, lockDec]
    omega
  · simp [lockqNext, lockqMax]

/-- The whole lock detector: it locks at `LOCKQ` 8, unlocks and counts at 0 (R175). -/
theorem lockStep_eq (rx : ModemRx) (good : Bool) :
    rx.lockStep good = { rx with
      lockq := BitVec.ofNat 4 (lockqNext good rx.lockq.toNat)
      locked := decide ((rx.locked = false ∧ 8 ≤ lockqNext good rx.lockq.toNat) ∨
        (rx.locked = true ∧ lockqNext good rx.lockq.toNat ≠ 0))
      syncLosses :=
        if rx.locked = true ∧ lockqNext good rx.lockq.toNat = 0 then satInc rx.syncLosses else rx.syncLosses } := by
  unfold ModemRx.lockStep
  generalize lockqNext good rx.lockq.toNat = q
  cases hlocked : rx.locked with
  | false =>
    by_cases hup : 8 ≤ q
    · simp [hup, lockHi]
    · simp [hup, lockHi]
  | true =>
    by_cases hdown : q = 0
    · simp [hdown]
    · simp [hdown]

/-- Settles O29: the cases of `lockStep_eq`. -/
theorem lockDetectorFollowsItsRule : Obligations.LockDetectorFollowsItsRule := by
  refine ⟨goodWindow_iff, ?_⟩
  intro rx good q up down rx'
  obtain ⟨hwidth, hq⟩ := lockqNext_eq good rx.lockq
  have heq : rx' = _ := lockStep_eq rx good
  have hup : up ↔ rx.locked = false ∧ 8 ≤ lockqNext good rx.lockq.toNat := and_congr_right fun _ => by omega
  have hdown : down ↔ rx.locked = true ∧ lockqNext good rx.lockq.toNat = 0 := and_congr_right fun _ => by omega
  rw [heq, hup, hdown]
  refine ⟨by rw [hwidth, hq], fun h => ?_, fun h => ?_, fun hnup hndown => ?_, rfl⟩
  · simp [h]
  · exact ⟨by simp [h], if_pos h⟩
  · cases hlocked : rx.locked with
    | false =>
      have hlow : ¬8 ≤ lockqNext good rx.lockq.toNat := fun hhigh => hnup ⟨hlocked, hhigh⟩
      simp [hlow]
    | true =>
      have hpositive : lockqNext good rx.lockq.toNat ≠ 0 := fun hzero => hndown ⟨hlocked, hzero⟩
      simp [hpositive]

end Sys2Proof.Machine
end

section
/-! The demodulator over a window and over a whole operand (spec/41_modem.md rules R170 to R178, R182 to R184). -/

namespace Sys2Proof.Machine

/-! ## The end of a window in integers -/

/-- The symbol the window decides (R172). -/
def ModemRx.decided (rx : ModemRx) : Symbol := decideSymbol (rx.cor.map Correlator.energy)

/-- `TE` of the window (R173). -/
def ModemRx.windowError (rx : ModemRx) (a : ActiveCfg) : Int :=
  timingError a.trackEn rx.half.toNat (rx.cor.get rx.decided).energyA (rx.cor.get rx.decided).energyB

/-- `CORR` of the window (R174). -/
def ModemRx.windowCorr (rx : ModemRx) (a : ActiveCfg) : Int := timingCorr a.trackEn rx.half.toNat (rx.windowError a)

/-- `GOOD` of the window (R175). -/
def ModemRx.windowGood (rx : ModemRx) (a : ActiveCfg) : Bool :=
  goodWindow (rx.cor.map Correlator.energy) rx.decided rx.half.toNat (rx.windowError a)

/-- The window's `TE` and lock are noted before its symbol is assembled (R173, R175). -/
def ModemRx.windowNoted (rx : ModemRx) (a : ActiveCfg) : ModemRx :=
  ({ rx with timingErr := BitVec.ofInt 16 (rx.windowError a) } : ModemRx).lockStep (rx.windowGood a)

/-- The end of a window is a note, a symbol and a restart (R171 to R177). -/
theorem windowEnd_eq (rx : ModemRx) (a : ActiveCfg) :
    rx.windowEnd a =
      (((rx.windowNoted a).assemble rx.decided).1.nextWindow a.sps (rx.windowCorr a),
        ((rx.windowNoted a).assemble rx.decided).2) := rfl

theorem pairEnergy_eq (i q : Int) : pairEnergy i q = (i / 65536) ^ 2 + (q / 65536) ^ 2 := by
  rw [pow_two, pow_two]
  rfl

theorem deadband_cast (half : Nat) : ((deadband half : Nat) : Int) = max 1 ((half : Int) / 4) := by
  simp [deadband]

/-- The same comparison with the deadband, of naturals and of integers. -/
theorem natAbs_lt_deadband_iff (half : Nat) (te : Int) : te.natAbs < deadband half ↔ |te| < max 1 ((half : Int) / 4) := by
  rw [← deadband_cast, Int.abs_eq_natAbs, Nat.cast_lt]

theorem windowError_natAbs_le (rx : ModemRx) (a : ActiveCfg) : (rx.windowError a).natAbs ≤ rx.half.toNat :=
  timingError_natAbs_le _ _ (pairEnergy_nonneg _ _) (pairEnergy_nonneg _ _)

theorem windowCorr_natAbs_le (rx : ModemRx) (a : ActiveCfg) : (rx.windowCorr a).natAbs ≤ rx.half.toNat / 2 :=
  (timingCorr_natAbs_le _ _ _).trans (Nat.div_le_div_right (windowError_natAbs_le rx a))

/-- `TE` fits its 16 bits (R173). -/
theorem windowError_fits (rx : ModemRx) (a : ActiveCfg) : (BitVec.ofInt 16 (rx.windowError a)).toInt = rx.windowError a := by
  have := windowError_natAbs_le rx a
  have := rx.half.isLt
  exact BitVec.toInt_ofInt_eq_self (by decide) (by omega) (by omega)

/-- The assembler changes `SYMBOLS_RX`, `SHREG` and `NSYM` alone (R176). -/
theorem assemble_frame (rx : ModemRx) (sym : Symbol) :
    ∃ sh n, (rx.assemble sym).1 = { rx with symbolsRx := satInc rx.symbolsRx, shreg := sh, nsym := n } := by
  by_cases h : rx.nsym.toNat = 3
  · exact ⟨_, _, congrArg Prod.fst (assemble_of_full h sym)⟩
  · exact ⟨_, _, congrArg Prod.fst (assemble_of_partial h sym)⟩

theorem deadband_le_natAbs_iff (half : Nat) (te : Int) : deadband half ≤ te.natAbs ↔ max 1 ((half : Int) / 4) ≤ |te| := by
  rw [← not_lt, ← not_lt, natAbs_lt_deadband_iff]

/-- The next window has `ACT_SPS - CORR` samples, and its half-window half of them (R177). -/
theorem windowEnd_window {a : ActiveCfg} {rx : ModemRx} (hmin : 1 ≤ a.sps.toNat) (hmax : a.sps.toNat ≤ 4096)
    (hhalf : rx.half.toNat = rx.wlen.toNat / 2) (hupper : rx.wlen.toNat ≤ a.sps.toNat + a.sps.toNat / 3) :
    ((rx.windowEnd a).1.wlen.toNat : Int) = a.sps.toNat - rx.windowCorr a ∧
      (rx.windowEnd a).1.half.toNat = (rx.windowEnd a).1.wlen.toNat / 2 := by
  refine ⟨?_, (windowBounds_windowEnd hmin hmax hhalf hupper).half⟩
  have := windowCorr_natAbs_le rx a
  change ((BitVec.ofInt 13 (a.sps.toNat - rx.windowCorr a)).toNat : Int) = _
  rw [BitVec.toNat_ofInt]
  omega

/-- The byte and the assembler's registers after the window's symbol, in integers (R176). -/
theorem assemble_byte (rx : ModemRx) (sym : Symbol) :
    if rx.nsym.toNat = 3 then
      (rx.assemble sym).2 = some (BitVec.ofNat 8 ((4 * rx.shreg.toNat + sym.val) % 256)) ∧
        (rx.assemble sym).1.shreg = 0 ∧ (rx.assemble sym).1.nsym = 0
    else
      (rx.assemble sym).2 = none ∧ (rx.assemble sym).1.shreg.toNat = (4 * rx.shreg.toNat + sym.val) % 256 ∧
        (rx.assemble sym).1.nsym.toNat = rx.nsym.toNat + 1 := by
  split
  · next hfull =>
    rw [assemble_of_full hfull]
    exact ⟨congrArg some (BitVec.eq_of_toNat_eq (by simp)), rfl, rfl⟩
  · next hpartial =>
    have := rx.nsym.isLt
    rw [assemble_of_partial hpartial]
    exact ⟨rfl, BitVec.toNat_ofNat _ _, BitVec.toNat_add_of_lt (y := 1) (show rx.nsym.toNat + 1 < 2 ^ 2 by omega)⟩

/-- The machine's `window_end` does what R171 to R177 say in integers. -/
theorem windowEnd_windowEnded {a : ActiveCfg} {rx : ModemRx} (hmin : 1 ≤ a.sps.toNat) (hmax : a.sps.toNat ≤ 4096)
    (hhalf : rx.half.toNat = rx.wlen.toNat / 2) (hupper : rx.wlen.toNat ≤ a.sps.toNat + a.sps.toNat / 3) :
    WindowEnded a rx (rx.windowEnd a).1 (rx.windowEnd a).2 := by
  unfold WindowEnded
  intro i q e etot
  have he (k : Symbol) : (rx.cor.map Correlator.energy).get k = e k := by
    rw [Tones.get_map]
    rfl
  obtain ⟨hmost, hfirst⟩ := decideSymbol_spec (rx.cor.map Correlator.energy)
  simp only [he] at hmost hfirst
  refine ⟨rx.decided, hmost, hfirst, ?_⟩
  intro ea eb te db corr lockq byte
  have hte : rx.windowError a = te := by
    rw [ModemRx.windowError, timingError, Correlator.energyA, Correlator.energyB, pairEnergy_eq, pairEnergy_eq]
    rfl
  have hcorr : rx.windowCorr a = corr := by
    rw [ModemRx.windowCorr, timingCorr, hte]
    exact if_congr (and_congr_right' (deadband_le_natAbs_iff _ _)) rfl rfl
  have hgood : rx.windowGood a = true ↔ 2 * etot < 3 * e rx.decided ∧ |te| < db := by
    rw [ModemRx.windowGood, goodWindow_iff, hte]
    simp only [he]
    exact and_congr_right' (natAbs_lt_deadband_iff _ _)
  obtain ⟨hwidth, hnext⟩ := lockqNext_eq (rx.windowGood a) rx.lockq
  have hlockq : (lockqNext (rx.windowGood a) rx.lockq.toNat : Int) = lockq := hnext.trans (if_congr hgood rfl rfl)
  have hhigh : 8 ≤ lockqNext (rx.windowGood a) rx.lockq.toNat ↔ 8 ≤ lockq := by omega
  have hzero : lockqNext (rx.windowGood a) rx.lockq.toNat = 0 ↔ lockq = 0 := by omega
  have hnoted : rx.windowNoted a = _ := lockStep_eq _ _
  obtain ⟨sh, n, hframe⟩ := assemble_frame (rx.windowNoted a) rx.decided
  have hwindow := windowEnd_window hmin hmax hhalf hupper
  have hbyte := assemble_byte (rx.windowNoted a) rx.decided
  rw [windowEnd_eq] at hwindow ⊢
  refine ⟨?timing, ?lockq, ?locked, ?losses, ?symbols, ?byte, fun k => Tones.get_all _ k, rfl, hcorr ▸ hwindow.1, hwindow.2⟩
  case byte =>
    rw [hnoted] at hbyte ⊢
    exact hbyte
  all_goals rw [hframe, hnoted]
  case timing => exact (windowError_fits rx a).trans hte
  case lockq => exact (congrArg Nat.cast hwidth).trans hlockq
  case locked =>
    exact decide_eq_true_iff.trans (or_congr (and_congr_right' hhigh) (and_congr_right' (not_congr hzero)))
  case losses =>
    refine (apply_ite BitVec.toNat _ _ _).trans (if_congr (and_congr_right' hzero) ?_ rfl)
    exact satInc_toNat _ _
  case symbols => exact satInc_toNat _ _

/-! ## `DEMODULATE` -/

theorem exec_of_success_LD {i : Instr} {s t : State} (hformat : i.format = .LD) (hlen : s.host.din.length = i.len)
    (hbody : bodyOf i s.host.din (s.setDin []).clearResults = .success t) : exec i s = .next t.endSuccess := by
  rw [exec_eq, if_pos hformat, runLD_of_eq _ s _ hlen, runZ_eq, hbody]
  rfl

/-- The state after `DEMODULATE` of all of `DIN`, where `DOUT` has the room (R178). -/
def State.demodulated (s : State) : State :=
  { s with
    host := s.host.afterLD ((rxSamples s.act s.host.din s.rx).2.map byteEntry)
      (BitVec.ofNat 32 (rxSamples s.act s.host.din s.rx).2.length) 0
    rx := (rxSamples s.act s.host.din s.rx).1 }

/-- An empty operand needs no room (R183, log 23). -/
theorem demodulateBody_of_room {s : State} {operand : List Entry} (hvalid : s.act.cfgValid = true)
    (hroom : operand.length = 0 ∨ s.host.dout.length + operand.length / 4 + 1 ≤ s.params.doutCap) :
    demodulateBody operand s = .success
      ((({ s with rx := (rxSamples s.act operand s.rx).1 } : State).pushDout
        ((rxSamples s.act operand s.rx).2.map byteEntry)).setResult0
          (resultWord (rxSamples s.act operand s.rx).2.length)) := by
  have hfits : ¬(operand ≠ [] ∧ s.doutLacks (operand.length / 4 + 1)) := by
    rintro ⟨hne, hlacks⟩
    have hpositive := List.length_pos_iff.mpr hne
    omega
  rw [demodulateBody, if_neg (by simp [hvalid]), if_neg hfits]

theorem exec_demodulate {s : State} {len : Nat} (hvalid : s.act.cfgValid = true) (hlen : s.host.din.length = len)
    (hroom : len = 0 ∨ s.host.dout.length + len / 4 + 1 ≤ s.params.doutCap) :
    exec (.demodulate len) s = .next s.demodulated := by
  subst hlen
  exact exec_of_success_LD (i := .demodulate _) rfl rfl (demodulateBody_of_room (s := (s.setDin []).clearResults) hvalid hroom)

/-- Settles O24: the command appends what `rxSamples` puts out, and the machine's sample and window end are those of the
rules in integers. -/
theorem demodulateAppendsTheReceivedBytes : Obligations.DemodulateAppendsTheReceivedBytes := by
  refine ⟨fun s len hvalid hlen hroom => ?_, fun a rx => ⟨rfl, fun x xs => rfl⟩, fun a rx x hcfg hwindow hsums => ?_⟩
  · intro r
    have hexec : exec (.demodulate len) s = .next s.demodulated := exec_demodulate hvalid hlen hroom
    refine ⟨hexec, ?_, fun hzero => ?_⟩
    · have hcount : 4 * r.2.length + r.1.nsym.toNat ≤ s.rx.nsym.toNat + s.host.din.length := rxSamples_count _ _ _
      omega
    · have hempty : s.host.din = [] := List.length_eq_zero_iff.mp (hlen.trans hzero)
      rw [hexec, State.demodulated, hempty]
      rfl
  · have htaken := correlate_sampleTaken a (entry_toInt_natAbs_le x) hwindow.clk hsums
    refine ⟨rx.correlate a x.toInt, htaken, fun hmore => if_neg hmore, fun hfull => ?_⟩
    exact ⟨_, _, if_pos hfull, windowEnd_windowEnded hcfg.spsMin hcfg.spsMax hwindow.half hwindow.upper⟩

/-- Settles O25: the receiver runs on from the first part to the second, and so do the bytes it puts out. -/
theorem demodulateSplitAnywhereIsTheSame : Obligations.DemodulateSplitAnywhereIsTheSame := by
  intro s a b hvalid hdin hroom
  have hfirst := rxSamples_length_le s.act a s.rx
  refine ⟨_, _, _, exec_demodulate hvalid (by simp [hdin]) (.inr (by omega)),
    exec_demodulate (s := { s with host := { s.host with din := a } }) hvalid rfl (.inr ?_),
    exec_demodulate hvalid rfl (.inr ?_), ?_⟩
  · change s.host.dout.length + a.length / 4 + 1 ≤ s.params.doutCap
    omega
  · simp only [State.demodulated, HostIf.afterLD, List.length_append, List.length_map]
    omega
  · simp [State.demodulated, HostIf.afterLD, hdin, rxSamples_append]

/-! ## Reception without tracking -/

/-- The receiver stands inside a window of `sps` samples. -/
structure ModemRx.InWindow (rx : ModemRx) (sps : BitVec 13) : Prop where
  wlen : rx.wlen = sps
  clk : rx.clk.toNat < sps.toNat

/-- How many samples of the current byte the receiver has taken, when every window has `sps` samples. -/
def ModemRx.progress (rx : ModemRx) (sps : BitVec 13) : Nat := rx.nsym.toNat * sps.toNat + rx.clk.toNat

theorem windowEnd_count (rx : ModemRx) (act : ActiveCfg) :
    4 * (rx.windowEnd act).2.toList.length + (rx.windowEnd act).1.nsym.toNat = rx.nsym.toNat + 1 := by
  have hnoted : (rx.windowNoted act).nsym = rx.nsym := lockStep_nsym _ _
  rw [← hnoted]
  exact assemble_count _ _

/-- Without tracking every window is restarted at `ACT_SPS` samples (R174, R177). -/
theorem windowEnd_wlen_of_untracked {act : ActiveCfg} (htrack : act.trackEn = false) (rx : ModemRx) :
    (rx.windowEnd act).1.wlen = act.sps := by
  have hcorr : rx.windowCorr act = 0 := by rw [ModemRx.windowCorr, htrack, timingCorr_untracked]
  change BitVec.ofInt 13 (act.sps.toNat - rx.windowCorr act) = act.sps
  simp [hcorr]

/-- A sample is one step on the way to the next byte (R170, R176). -/
theorem sample_progress {act : ActiveCfg} {rx : ModemRx} (htrack : act.trackEn = false) (hpos : 1 ≤ act.sps.toNat)
    (h : rx.InWindow act.sps) (x : Int) :
    (rx.sample act x).1.InWindow act.sps ∧
      (rx.sample act x).2.toList.length * (4 * act.sps.toNat) + (rx.sample act x).1.progress act.sps =
        rx.progress act.sps + 1 := by
  have hclk : (rx.correlate act x).clk.toNat = rx.clk.toNat + 1 := correlate_clk act x (by rw [h.wlen]; exact h.clk)
  have hlast : (rx.correlate act x).clk = (rx.correlate act x).wlen ↔ rx.clk.toNat + 1 = act.sps.toNat := by
    rw [← hclk, ← h.wlen]
    exact BitVec.toNat_inj.symm
  unfold ModemRx.sample
  dsimp only
  split
  · next hend =>
    have hcount : 4 * ((rx.correlate act x).windowEnd act).2.toList.length +
        ((rx.correlate act x).windowEnd act).1.nsym.toNat = rx.nsym.toNat + 1 := windowEnd_count _ _
    refine ⟨⟨windowEnd_wlen_of_untracked htrack _, hpos⟩, ?_⟩
    calc ((rx.correlate act x).windowEnd act).2.toList.length * (4 * act.sps.toNat) +
          (((rx.correlate act x).windowEnd act).1.nsym.toNat * act.sps.toNat + 0)
      _ = (rx.nsym.toNat + 1) * act.sps.toNat := by rw [← hcount]; ring
      _ = rx.nsym.toNat * act.sps.toNat + rx.clk.toNat + 1 := by rw [Nat.succ_mul, add_assoc, hlast.mp hend]
  · next hmore =>
    have hlt := h.clk
    have hnot := mt hlast.mpr hmore
    refine ⟨⟨h.wlen, show (rx.correlate act x).clk.toNat < _ by omega⟩, ?_⟩
    change 0 * _ + (rx.nsym.toNat * act.sps.toNat + (rx.correlate act x).clk.toNat) = _
    rw [hclk, Nat.zero_mul, Nat.zero_add]
    rfl

theorem rxSamples_progress {act : ActiveCfg} (htrack : act.trackEn = false) (hpos : 1 ≤ act.sps.toNat)
    (xs : List Entry) {rx : ModemRx} (h : rx.InWindow act.sps) :
    (rxSamples act xs rx).1.InWindow act.sps ∧
      (rxSamples act xs rx).2.length * (4 * act.sps.toNat) + (rxSamples act xs rx).1.progress act.sps =
        rx.progress act.sps + xs.length := by
  induction xs generalizing rx with
  | nil => exact ⟨h, by simp [rxSamples]⟩
  | cons x xs ih =>
    obtain ⟨hin, hfirst⟩ := sample_progress htrack hpos h (int16 x)
    obtain ⟨hend, hothers⟩ := ih hin
    refine ⟨hend, ?_⟩
    simp only [rxSamples, List.length_append, List.length_cons, Nat.add_mul]
    omega

/-- Settles O26: a byte takes `4 * ACT_SPS` samples, and the receiver starts at none of them. -/
theorem alignedReceptionGivesOneByteForFourWindows : Obligations.AlignedReceptionGivesOneByteForFourWindows := by
  intro act rx n es htrack hpos hlen r
  obtain ⟨hin, hcount⟩ : r.1.InWindow act.sps ∧ r.2.length * (4 * act.sps.toNat) + r.1.progress act.sps =
      (rx.realign act.sps).progress act.sps + es.length := rxSamples_progress htrack hpos es ⟨rfl, hpos⟩
  have hstart : (rx.realign act.sps).progress act.sps = 0 := Nat.zero_mul _
  have hclk := hin.clk
  have htotal : act.sps.toNat * (4 * r.2.length + r.1.nsym.toNat) + r.1.clk.toNat = act.sps.toNat * (4 * n) :=
    calc act.sps.toNat * (4 * r.2.length + r.1.nsym.toNat) + r.1.clk.toNat
      _ = r.2.length * (4 * act.sps.toNat) + r.1.progress act.sps := by rw [ModemRx.progress]; ring
      _ = act.sps.toNat * (4 * n) := by rw [hcount, hstart, hlen]; ring
  have hzero : r.1.clk.toNat = 0 := by
    have hmod := congrArg (· % act.sps.toNat) htotal
    simpa [Nat.mul_add_mod, Nat.mod_eq_of_lt hclk] using hmod
  have hsymbols : 4 * r.2.length + r.1.nsym.toNat = 4 * n := by
    rw [hzero] at htotal
    exact Nat.eq_of_mul_eq_mul_left hpos htotal
  have := r.1.nsym.isLt
  exact ⟨by omega, BitVec.eq_of_toNat_eq hzero, BitVec.eq_of_toNat_eq (show r.1.nsym.toNat = 0 by omega), hin.wlen⟩

end Sys2Proof.Machine
end

section
/-! The modulator (spec/41_modem.md rules R160 to R166): the symmetries of the sine, the phase that runs on from symbol to
symbol, and what `MODULATE` and `SAMPLES_FOR_BYTES` answer. -/

namespace Sys2Proof.Machine

/-! ## The sine ROM, quarter by quarter; the quarters agree where they meet -/

theorem rom_first {k : Nat} (hhi : k ≤ 256) : rom k = qw k := if_pos hhi

theorem rom_second {k : Nat} (hlo : 256 ≤ k) (hhi : k ≤ 512) : rom k = qw (512 - k) := by
  obtain rfl | hlt := hlo.eq_or_lt
  · rfl
  · rw [rom, if_neg (not_le.mpr hlt), if_pos hhi]

theorem rom_third {k : Nat} (hlo : 512 ≤ k) (hhi : k ≤ 768) : rom k = -qw (k - 512) := by
  obtain rfl | hlt := hlo.eq_or_lt
  · rfl
  · rw [rom, if_neg (by omega), if_neg (not_le.mpr hlt), if_pos hhi]

theorem rom_fourth {k : Nat} (hlo : 768 ≤ k) : rom k = -qw (1024 - k) := by
  obtain rfl | hlt := hlo.eq_or_lt
  · rfl
  · rw [rom, if_neg (by omega), if_neg (by omega), if_neg (not_le.mpr hlt)]

/-- The second half turn is the first, negated. -/
theorem rom_add_half {k : Nat} (hk : k ≤ 512) : rom (k + 512) = -rom k := by
  obtain hfirst | hsecond := le_total k 256
  · rw [rom_first hfirst, rom_third (by omega) (by omega), Nat.add_sub_cancel]
  · rw [rom_second hsecond hk, rom_fourth (by omega), Nat.add_sub_add_right 512 512 k]

/-- The sine is odd about the half turn. -/
theorem rom_half_turn {k : Nat} (hk : k < 1024) : rom ((k + 512) % 1024) = -rom k := by
  obtain hlow | hhigh := lt_or_ge k 512
  · rw [Nat.mod_eq_of_lt (by omega), rom_add_half hlow.le]
  · obtain ⟨j, rfl⟩ := Nat.exists_eq_add_of_le' hhigh
    rw [rom_add_half (by omega), neg_neg, Nat.add_assoc, Nat.add_mod_right, Nat.mod_eq_of_lt (by omega)]

/-- The sine is mirrored about the quarter turn. -/
theorem rom_mirror {k : Nat} (hk : k ≤ 512) : rom (512 - k) = rom k := by
  obtain hfirst | hsecond := le_total k 256
  · rw [rom_first hfirst, rom_second (by omega) (by omega), Nat.sub_sub_self hk]
  · rw [rom_second hsecond hk, rom_first (by omega)]

theorem rom_mirror_turn {k : Nat} (hk : k < 1024) : rom ((1536 - k) % 1024) = rom k := by
  obtain hlow | hhigh := le_total k 512
  · have hindex : (1536 - k) % 1024 = 512 - k := by omega
    rw [hindex, rom_mirror hlow]
  · obtain ⟨j, rfl⟩ := Nat.exists_eq_add_of_le' hhigh
    have hindex : (1536 - (j + 512)) % 1024 = (512 - j + 512) % 1024 := by omega
    rw [hindex, rom_half_turn (by omega), rom_mirror (by omega), rom_add_half (by omega)]

/-! ## The sine of a phase -/

theorem romIndex_lt (ph : Word) : romIndex ph < 1024 := by
  have := ph.isLt
  unfold romIndex
  omega

/-- The ROM address is all that the mask leaves of a phase (R161). -/
theorem masked_toNat (ph : Word) : (ph &&& 0xFFC00000).toNat = 2 ^ 22 * romIndex ph := by
  have hmask : (0xFFC00000 : Word) = BitVec.allOnes 32 <<< 22 := by decide
  have hlt := romIndex_lt ph
  rw [hmask, ← BitVec.shiftLeft_ushiftRight, BitVec.toNat_shiftLeft, BitVec.toNat_ushiftRight, Nat.shiftRight_eq_div_pow]
  change romIndex ph <<< 22 % 2 ^ 32 = _
  rw [Nat.shiftLeft_eq]
  omega

theorem sinOf_masked (ph : Word) : sinOf ph = sinOf (ph &&& 0xFFC00000) := by
  have hindex : romIndex (ph &&& 0xFFC00000) = romIndex ph := by
    rw [romIndex, masked_toNat, Nat.mul_div_cancel_left _ (by decide)]
  rw [sinOf, sinOf, hindex]

/-- A phase advanced by whole addresses (R161). -/
theorem romIndex_add (ph : Word) {n : Nat} (hn : n < 1024) :
    romIndex (ph + BitVec.ofNat 32 (2 ^ 22 * n)) = (romIndex ph + n) % 1024 := by
  unfold romIndex
  rw [BitVec.toNat_add, BitVec.toNat_ofNat]
  omega

theorem sinOf_half_turn (ph : Word) : sinOf (ph + 0x80000000) = -sinOf ph := by
  have hhalf : (0x80000000 : Word) = BitVec.ofNat 32 (2 ^ 22 * 512) := by decide
  rw [hhalf, sinOf, romIndex_add ph (by decide), rom_half_turn (romIndex_lt ph), sinOf]

theorem sinOf_mirror (ph : Word) : sinOf (0x80000000 - (ph &&& 0xFFC00000)) = sinOf ph := by
  have hlt := romIndex_lt ph
  have hindex : romIndex (0x80000000 - (ph &&& 0xFFC00000)) = (1536 - romIndex ph) % 1024 := by
    have hhalf : (0x80000000 : Word).toNat = 2 ^ 31 := by decide
    rw [romIndex, BitVec.toNat_sub, masked_toNat, hhalf]
    omega
  rw [sinOf, hindex, rom_mirror_turn hlt, sinOf]

theorem cosOf_eq (ph : Word) : cosOf ph = sinOf (ph + 0x40000000) := by
  have hquarter : (0x40000000 : Word) = BitVec.ofNat 32 (2 ^ 22 * 256) := by decide
  rw [hquarter, sinOf, romIndex_add ph (by decide), cosOf]

/-! ## The phase runs on -/

/-- `tonePhase_eq` with the advance as one number. -/
theorem tonePhase_eq_add_ofNat (fcw : Word) (n : Nat) (ph : Word) :
    tonePhase fcw n ph = ph + BitVec.ofNat 32 (n * fcw.toNat) := by
  rw [tonePhase_eq, BitVec.ofNat_mul, BitVec.ofNat_toNat, BitVec.setWidth_eq]

theorem toneSamples_getElem? (fcw : Word) {n j : Nat} (hj : j < n) (ph : Word) :
    (toneSamples fcw n ph)[j]? = some (u16 (sinOf (ph + BitVec.ofNat 32 (j * fcw.toNat)))) := by
  induction n generalizing ph j with
  | zero => exact absurd hj (Nat.not_lt_zero j)
  | succ n ih =>
    cases j with
    | zero => simp [toneSamples]
    | succ j =>
      rw [toneSamples, List.getElem?_cons_succ, ih (Nat.lt_of_succ_lt_succ hj), Nat.succ_mul, Nat.add_comm _ fcw.toNat,
        BitVec.ofNat_add, BitVec.ofNat_toNat, BitVec.setWidth_eq, BitVec.add_assoc]

theorem phaseTravel_cons (a : ActiveCfg) (v : Symbol) (vs : List Symbol) :
    phaseTravel a (v :: vs) = a.sps.toNat * (a.fcw.get v).toNat + phaseTravel a vs := by
  simp [phaseTravel]

theorem satInc_zero (c : Word) : satInc c 0 = c := by
  apply BitVec.eq_of_toNat_eq
  have := c.isLt
  rw [satInc_toNat]
  omega

/-- The transmit state after a list of symbols (R163). -/
theorem txSymbols_tx (a : ActiveCfg) (vs : List Symbol) (tx : ModemTx) :
    (txSymbols a vs tx).1 =
      { phase := tx.phase + BitVec.ofNat 32 (phaseTravel a vs), symbolsTx := satInc tx.symbolsTx vs.length } := by
  induction vs generalizing tx with
  | nil => simp [txSymbols, phaseTravel, satInc_zero]
  | cons v vs ih =>
    rw [txSymbols, ih, txSymbol, tonePhase_eq_add_ofNat, satInc_satInc, phaseTravel_cons, BitVec.ofNat_add,
      BitVec.add_assoc, Nat.add_comm 1, List.length_cons]

/-- The samples of the later symbols, seen from the phase after the first. -/
theorem sampleAt_cons_succ (a : ActiveCfg) (ph : Word) (v : Symbol) (vs : List Symbol) (k j : Nat) :
    sampleAt a ph (v :: vs) (k + 1) j = sampleAt a (tonePhase (a.fcw.get v) a.sps.toNat ph) vs k j := by
  rw [sampleAt, sampleAt, List.take_succ_cons, phaseTravel_cons, List.getD_cons_succ, tonePhase_eq_add_ofNat, Nat.add_assoc,
    BitVec.ofNat_add, BitVec.add_assoc]

/-- The sample at every position of every symbol (R163). -/
theorem txSymbols_getElem? (a : ActiveCfg) {vs : List Symbol} {k j : Nat} (hk : k < vs.length) (hj : j < a.sps.toNat)
    (tx : ModemTx) : (txSymbols a vs tx).2[k * a.sps.toNat + j]? = some (sampleAt a tx.phase vs k j) := by
  induction vs generalizing k tx with
  | nil => exact absurd hk (Nat.not_lt_zero k)
  | cons v vs ih =>
    have hlen : (txSymbol a tx v).2.length = a.sps.toNat := toneSamples_length _ _ _
    rw [txSymbols]
    cases k with
    | zero =>
      rw [Nat.zero_mul, Nat.zero_add, List.getElem?_append_left (by rwa [hlen]), txSymbol, toneSamples_getElem? _ hj]
      simp [sampleAt, phaseTravel]
    | succ k =>
      have hnext : (k + 1) * a.sps.toNat + j - a.sps.toNat = k * a.sps.toNat + j := by rw [Nat.succ_mul]; omega
      rw [List.getElem?_append_right (by rw [hlen, Nat.succ_mul]; omega), hlen, hnext, ih (Nat.lt_of_succ_lt_succ hk),
        sampleAt_cons_succ]
      rfl

/-! ## `MODULATE` and `SAMPLES_FOR_BYTES` -/

theorem modulateBody_of_room {s : State} {operand : List Entry} (hvalid : s.act.cfgValid = true)
    (hroom : s.host.dout.length + operand.length * 4 * s.act.sps.toNat ≤ s.params.doutCap) :
    modulateBody operand s = .success
      ((({ s with tx := (txBytes s.act (operandBytes operand) s.tx).1 } : State).pushDout
        (txBytes s.act (operandBytes operand) s.tx).2).setResult0 (resultWord (samplesFor s.act operand.length))) := by
  rw [modulateBody, if_neg (by simp [hvalid])]
  exact if_neg (not_lt.mpr hroom)

/-- `MODULATE` of all of `DIN`, where `DOUT` has the room (R164). -/
theorem exec_modulate {s : State} {len : Nat} (hvalid : s.act.cfgValid = true) (hlen : s.host.din.length = len)
    (hroom : s.host.dout.length + len * 4 * s.act.sps.toNat ≤ s.params.doutCap) :
    exec (.modulate len) s = .next { s with
      host := s.host.afterLD (txBytes s.act (operandBytes s.host.din) s.tx).2
        (BitVec.ofNat 32 (len * 4 * s.act.sps.toNat)) 0
      tx := (txBytes s.act (operandBytes s.host.din) s.tx).1 } := by
  subst hlen
  exact exec_of_success_LD (i := .modulate _) rfl rfl (modulateBody_of_room (s := (s.setDin []).clearResults) hvalid hroom)

theorem samplesForBytesBody_of_valid {s : State} (hvalid : s.act.cfgValid = true) (len : Nat) :
    samplesForBytesBody len s = .success
      ((s.setResult0 (resultWord (samplesFor s.act len))).setResult1 (resultWord (samplesFor s.act len / 2 ^ 32))) :=
  if_neg (by simp [hvalid])

/-- A number in two result registers (R165). -/
theorem resultWords_toNat {n : Nat} (hn : n < 2 ^ 64) :
    (resultWord n).toNat + 2 ^ 32 * (resultWord (n / 2 ^ 32)).toNat = n := by
  rw [resultWord, resultWord, BitVec.toNat_ofNat, BitVec.toNat_ofNat]
  omega

/-- Settles O22: the length law of the modulator is `samplesFor`, which is below `2^39`. -/
theorem samplesForBytesIsTheModulatedLength : Obligations.SamplesForBytesIsTheModulatedLength := by
  intro s len hvalid hlen
  refine ⟨?samples, fun hdin hroom hcap => ?modulate⟩
  case samples =>
    have hsize : samplesFor s.act len < 2 ^ 64 :=
      calc len * 4 * s.act.sps.toNat
        _ ≤ 2 ^ 24 * 4 * 2 ^ 13 := Nat.mul_le_mul (Nat.mul_le_mul_right 4 hlen.le) s.act.sps.isLt.le
        _ < 2 ^ 64 := by decide
    refine ⟨_, exec_of_success (i := .samplesForBytes len) nofun (samplesForBytesBody_of_valid hvalid len),
      resultWords_toNat hsize, rfl, ?_⟩
    constructor <;> rfl
  case modulate =>
    refine ⟨_, exec_modulate hvalid hdin hroom, rfl, ?_, ?_⟩
    · change (s.host.dout ++ _).length = _
      rw [List.length_append, txBytes_length, operandBytes_length, hdin]
    · exact Nat.mod_eq_of_lt (by omega)

theorem sinOf_sixteenths : (List.range 17).map (fun k => sinOf (BitVec.ofNat 32 (16 * k * 2 ^ 22))) =
    [0, 1606, 3196, 4756, 6270, 7723, 9102, 10394, 11585, 12665, 13623, 14449, 15137, 15679, 16069, 16305, 16384] := by
  decide

/-- Settles O23: the symmetries of the sine, and the transmit state and the samples of a list of symbols. -/
theorem modulateEmitsPhaseContinuousTones : Obligations.ModulateEmitsPhaseContinuousTones := by
  refine ⟨⟨sinOf_sixteenths, by decide, fun ph => ⟨sinOf_masked ph, sinOf_half_turn ph, sinOf_mirror ph, cosOf_eq ph⟩⟩, ?_⟩
  intro s len hvalid hlen hroom vs
  have hcount : vs.length = 4 * len := by rw [bytesSymbols_length, operandBytes_length, hlen]
  refine ⟨(txBytes s.act (operandBytes s.host.din) s.tx).2, ?_, ?_, fun k hk j hj => ?_⟩
  · rw [exec_modulate hvalid hlen hroom, txBytes, txSymbols_tx, ← hcount]
    rfl
  · rw [txBytes_length, operandBytes_length, hlen]
  · exact txSymbols_getElem? s.act (hcount ▸ hk) hj s.tx

end Sys2Proof.Machine
end

section
/-! The field GF(2^8) (spec/42_fec.md rules R211 and R212). Every non-zero byte is a power of `alpha`, and multiplication
by `alpha` is `xtime`, which `gmul` passes through; so a product of two powers adds the exponents, and the laws of the field
are laws of exponents. -/

namespace Sys2Proof.Machine

-- The kernel checks these one at a time: `decide +kernel` waits for every theorem before it.
set_option Elab.async false

/-! ## Addition: `gmul` is additive in its first factor -/

theorem xtime_xor (a b : Byte) : xtime (a ^^^ b) = xtime a ^^^ xtime b := by
  have hshift : (a ^^^ b) <<< 1 = a <<< 1 ^^^ b <<< 1 := BitVec.shiftLeft_xor_distrib a b 1
  rw [xtime, xtime, xtime, hshift, BitVec.getLsbD_xor]
  have hcarry : (if (a.getLsbD 7 ^^ b.getLsbD 7) = true then 0x1D else 0 : Byte) =
      (if a.getLsbD 7 = true then 0x1D else 0) ^^^ (if b.getLsbD 7 = true then 0x1D else 0) := by
    cases a.getLsbD 7 <;> cases b.getLsbD 7 <;> rfl
  rw [hcarry]
  ac_rfl

@[simp] theorem xtime_zero : xtime 0#8 = 0#8 := by decide

theorem gmulBits_xor_left (n : Nat) (a a' b : Byte) :
    gmulBits n (a ^^^ a') b = gmulBits n a b ^^^ gmulBits n a' b := by
  induction n generalizing a a' b with
  | zero => simp [gmulBits]
  | succ n ih =>
    rw [gmulBits, gmulBits, gmulBits, xtime_xor, ih]
    cases b.getLsbD 0
    · simp
    · simp only [if_true]
      ac_rfl

theorem gmul_xor_left (a a' b : Byte) : gmul (a ^^^ a') b = gmul a b ^^^ gmul a' b := gmulBits_xor_left 8 a a' b

@[simp] theorem gmul_zero_left (b : Byte) : gmul 0#8 b = 0#8 := by
  have h := gmul_xor_left 0#8 0#8 b
  rwa [BitVec.xor_self, BitVec.xor_self] at h

theorem gmulBits_zero_right (n : Nat) (a : Byte) : gmulBits n a 0#8 = 0#8 := by
  induction n generalizing a with
  | zero => rfl
  | succ n ih => simpa [gmulBits] using ih _

@[simp] theorem gmul_zero_right (a : Byte) : gmul a 0#8 = 0#8 := gmulBits_zero_right 8 a

/-! ## Multiplication by `alpha` -/

theorem gmulBits_xtime_left (n : Nat) (a b : Byte) : gmulBits n (xtime a) b = xtime (gmulBits n a b) := by
  induction n generalizing a b with
  | zero => exact xtime_zero.symm
  | succ n ih =>
    rw [gmulBits, gmulBits, xtime_xor, ih]
    cases b.getLsbD 0 <;> simp

theorem gmul_xtime_left (a b : Byte) : gmul (xtime a) b = xtime (gmul a b) := gmulBits_xtime_left 8 a b

@[simp] theorem gmul_one_left (b : Byte) : gmul 1#8 b = b := by
  have byNumber : ∀ n < 256, gmul 1#8 (BitVec.ofNat 8 n) = BitVec.ofNat 8 n := by decide +kernel
  simpa using byNumber b.toNat b.isLt

theorem gmul_alpha (b : Byte) : gmul 0x02 b = xtime b :=
  calc gmul 0x02 b
    _ = gmul (xtime 1#8) b := rfl
    _ = xtime b := by rw [gmul_xtime_left, gmul_one_left]

/-! ## Powers of `alpha` -/

theorem expTab_succ : ∀ i < 255, expTab ((i + 1) % 255) = xtime (expTab i) := by decide +kernel

theorem expTab_eq_one : ∀ i < 255, expTab i = 1#8 → i = 0 := by decide +kernel

@[simp] theorem apow_zero : apow 0 = 1#8 := by decide

theorem apow_natCast (n : Nat) : apow n = expTab (n % 255) := by
  rw [apow, ← Int.toNat_natCast (n % 255), Int.natCast_mod]
  rfl

theorem apow_succ (i : Int) : apow (i + 1) = xtime (apow i) := by
  have hindex : ((i + 1) % 255).toNat = ((i % 255).toNat + 1) % 255 := by omega
  rw [apow, apow, hindex, expTab_succ _ (by omega)]

theorem apow_emod (i : Int) : apow (i % 255).toNat = apow i := by
  rw [apow, apow]
  congr 1
  omega

theorem apow_eq_one_iff (i : Int) : apow i = 1#8 ↔ i % 255 = 0 := by
  constructor
  · intro h
    have := expTab_eq_one _ (by omega) h
    omega
  · intro h
    rw [apow, h]
    rfl

/-- A product of powers adds the exponents. -/
theorem gmul_apow (i j : Int) : gmul (apow i) (apow j) = apow (i + j) := by
  have natural (n : Nat) : gmul (apow n) (apow j) = apow (n + j) := by
    induction n with
    | zero => rw [Nat.cast_zero, apow_zero, gmul_one_left, Int.zero_add]
    | succ n ih => rw [Nat.cast_succ, apow_succ, gmul_xtime_left, ih, add_right_comm, apow_succ]
  rw [← apow_emod i, natural, ← apow_emod, ← apow_emod (i + j)]
  congr 2
  omega

theorem apow_ne_zero (i : Int) : apow i ≠ 0#8 := by
  intro h
  have hone : gmul (apow i) (apow (-i)) = 1#8 := by rw [gmul_apow, add_neg_cancel, apow_zero]
  rw [h, gmul_zero_left] at hone
  exact absurd hone (by decide)

/-! ## Logarithms -/

theorem logTab_spec (a : Byte) (ha : a ≠ 0) : logTab a < 255 ∧ expTab (logTab a) = a := by
  have byNumber : ∀ n < 256, n ≠ 0 → logTab (BitVec.ofNat 8 n) < 255 ∧
      expTab (logTab (BitVec.ofNat 8 n)) = BitVec.ofNat 8 n := by decide +kernel
  have hne : a.toNat ≠ 0 := fun h => ha (BitVec.eq_of_toNat_eq h)
  simpa using byNumber a.toNat a.isLt hne

theorem logTab_lt {a : Byte} (ha : a ≠ 0) : logTab a < 255 := (logTab_spec a ha).1

theorem expTab_logTab {a : Byte} (ha : a ≠ 0) : expTab (logTab a) = a := (logTab_spec a ha).2

theorem apow_logTab {a : Byte} (ha : a ≠ 0) : apow (logTab a) = a := by
  rw [apow_natCast, Nat.mod_eq_of_lt (logTab_lt ha), expTab_logTab ha]

/-- Every byte is zero or a power of `alpha`. -/
theorem byte_cases (a : Byte) : a = 0#8 ∨ ∃ i : Int, a = apow i := by
  by_cases ha : a = 0#8
  · exact .inl ha
  · exact .inr ⟨_, (apow_logTab ha).symm⟩

/-! ## The laws of the field -/

theorem gmul_comm (a b : Byte) : gmul a b = gmul b a := by
  obtain rfl | ⟨i, rfl⟩ := byte_cases a
  · simp
  · obtain rfl | ⟨j, rfl⟩ := byte_cases b
    · simp
    · rw [gmul_apow, gmul_apow, add_comm]

theorem gmul_assoc (a b c : Byte) : gmul (gmul a b) c = gmul a (gmul b c) := by
  obtain rfl | ⟨i, rfl⟩ := byte_cases a
  · simp
  obtain rfl | ⟨j, rfl⟩ := byte_cases b
  · simp
  obtain rfl | ⟨k, rfl⟩ := byte_cases c
  · simp
  rw [gmul_apow, gmul_apow, gmul_apow, gmul_apow, add_assoc]

theorem gmul_xor_right (a b b' : Byte) : gmul a (b ^^^ b') = gmul a b ^^^ gmul a b' := by
  rw [gmul_comm, gmul_xor_left, gmul_comm b, gmul_comm b']

@[simp] theorem gmul_one_right (a : Byte) : gmul a 1#8 = a := by rw [gmul_comm, gmul_one_left]

theorem ginv_eq_apow {a : Byte} (ha : a ≠ 0) : ginv a = apow (-(logTab a : Int)) := by
  have := logTab_lt ha
  rw [ginv, apow]
  congr 1
  omega

theorem gmul_ginv {a : Byte} (ha : a ≠ 0) : gmul a (ginv a) = 1#8 :=
  calc gmul a (ginv a)
    _ = gmul (apow (logTab a)) (apow (-(logTab a : Int))) := by rw [apow_logTab ha, ginv_eq_apow ha]
    _ = 1#8 := by rw [gmul_apow, add_neg_cancel, apow_zero]

theorem gmul_gdiv_cancel {b : Byte} (hb : b ≠ 0) (a : Byte) : gmul b (gdiv a b) = a := by
  rw [gdiv, gmul_comm a, ← gmul_assoc, gmul_ginv hb, gmul_one_left]

theorem gmulTable_eq_gmul (a b : Byte) : gmulTable a b = gmul a b := by
  by_cases hzero : a = 0 ∨ b = 0
  · rw [gmulTable, if_pos hzero]
    obtain rfl | rfl := hzero <;> simp
  · obtain ⟨ha, hb⟩ := not_or.mp hzero
    rw [gmulTable, if_neg hzero, ← apow_natCast, Nat.cast_add, ← gmul_apow, apow_logTab ha, apow_logTab hb]

/-- Settles O30: a product of two non-zero bytes adds their logarithms, modulo 255. -/
theorem fieldTablesAgreeWithTheBitLevelField : Obligations.FieldTablesAgreeWithTheBitLevelField := by
  refine ⟨gmulTable_eq_gmul, ⟨rfl, fun i hi => ?_⟩, fun a ha => ⟨logTab_lt ha, expTab_logTab ha, gmul_ginv ha⟩⟩
  rw [gmul_alpha, expTab_succ i hi]

end Sys2Proof.Machine
end

section
/-! The encoder and the commands of opcode group `0x2_` (spec/42_fec.md rules R214 to R217, R227, R250 and R251): evaluation
at a power of `alpha`, the parity register as a remainder, and what each command answers. -/

namespace Sys2Proof.Machine

-- The kernel checks these one at a time: `decide +kernel` waits for every theorem before it.
set_option Elab.async false

/-! ## Horner's rule at a power of `alpha` -/

theorem foldl_horner (j : Int) (r : List Byte) (y : Byte) :
    r.foldl (fun y b => gmul y (apow j) ^^^ b) y = gmul y (apow (j * r.length)) ^^^ hornerEval r (apow j) := by
  induction r generalizing y with
  | nil => simp [hornerEval]
  | cons b r ih =>
    have hexponent : j * ((b :: r).length : Nat) = j + j * r.length := by
      rw [List.length_cons, Nat.cast_succ, Int.mul_add, Int.mul_one, Int.add_comm]
    rw [hornerEval, List.foldl_cons, List.foldl_cons, ih, ih, hexponent, ← gmul_apow, ← gmul_assoc, gmul_xor_left,
      gmul_xor_left]
    simp [BitVec.xor_assoc]

theorem hornerEval_append (a b : List Byte) (j : Int) :
    hornerEval (a ++ b) (apow j) = gmul (hornerEval a (apow j)) (apow (j * b.length)) ^^^ hornerEval b (apow j) := by
  rw [hornerEval, List.foldl_append]
  exact foldl_horner j b _

theorem hornerEval_singleton (b x : Byte) : hornerEval [b] x = b := by simp [hornerEval]

theorem hornerEval_concat (r : List Byte) (b x : Byte) : hornerEval (r ++ [b]) x = gmul (hornerEval r x) x ^^^ b := by
  simp [hornerEval]

theorem hornerEval_cons (b : Byte) (r : List Byte) (j : Int) :
    hornerEval (b :: r) (apow j) = gmul b (apow (j * r.length)) ^^^ hornerEval r (apow j) := by
  rw [← List.singleton_append, hornerEval_append, hornerEval_singleton]

/-- Evaluation is linear. -/
theorem hornerEval_zipWith (c : Byte) (j : Int) {p g : List Byte} (h : p.length = g.length) :
    hornerEval (List.zipWith (fun p g => p ^^^ gmul c g) p g) (apow j) =
      hornerEval p (apow j) ^^^ gmul c (hornerEval g (apow j)) := by
  induction p, g using List.zipWith.induct with
  | case1 b p d g ih =>
    have hlen : p.length = g.length := Nat.succ.inj h
    rw [List.zipWith_cons_cons, hornerEval_cons, hornerEval_cons, hornerEval_cons, ih hlen, List.length_zipWith, ← hlen,
      Nat.min_self, gmul_xor_left, gmul_xor_right, gmul_assoc]
    ac_rfl
  | case2 p g hnil =>
    cases p with
    | nil =>
      obtain rfl := List.length_eq_zero_iff.mp h.symm
      simp [hornerEval]
    | cons b p =>
      cases g with
      | nil => exact absurd h (Nat.succ_ne_zero _)
      | cons d g => exact (hnil b p d g rfl rfl).elim

/-! ## The parity register -/

/-- `g(alpha^j) = 0`: the lower coefficients of the generator sum to `x^32` (R213). -/
theorem hornerEval_genTaps : ∀ j < 32, hornerEval genTaps (apow (j : Nat)) = apow ((j * 32 : Nat) : Int) := by decide +kernel

theorem genTaps_length : genTaps.length = 32 := rfl

/-- One data byte: the register's polynomial is multiplied by `x` and gains the byte at `x^32` (R216). -/
theorem hornerEval_parityStep {par : List Byte} (hpar : par.length = 32) (b : Byte) {j : Nat} (hj : j < 32) :
    hornerEval (parityStep par b) (apow j) =
      gmul (hornerEval par (apow j)) (apow j) ^^^ gmul b (apow ((j * 32 : Nat) : Int)) := by
  obtain ⟨first, rest, rfl⟩ := List.exists_cons_of_length_eq_add_one hpar
  have hrest : rest.length = 31 := Nat.succ.inj hpar
  have hwhole : hornerEval (first :: (rest ++ [0])) (apow j) = gmul (hornerEval (first :: rest) (apow j)) (apow j) := by
    rw [← List.cons_append, hornerEval_concat]
    exact BitVec.xor_zero
  have hshift : hornerEval (rest ++ [0]) (apow j) =
      gmul (hornerEval (first :: rest) (apow j)) (apow j) ^^^ gmul first (apow ((j * 32 : Nat) : Int)) := by
    rw [← hwhole, hornerEval_cons, List.length_append, hrest, BitVec.xor_comm, ← BitVec.xor_assoc, Nat.cast_mul]
    exact (BitVec.xor_self.symm ▸ BitVec.zero_xor).symm
  have hfeedback := hornerEval_zipWith (b ^^^ first) j (p := rest ++ [0]) (g := genTaps)
    (by rw [List.length_append, hrest, genTaps_length]; rfl)
  rw [hornerEval_genTaps j hj, hshift, gmul_xor_left] at hfeedback
  refine hfeedback.trans ?_
  rw [BitVec.xor_comm (gmul b _), BitVec.xor_assoc, ← BitVec.xor_assoc (gmul first _), BitVec.xor_self, BitVec.zero_xor]

theorem rsParity_concat (d : List Byte) (b : Byte) : rsParity (d ++ [b]) = parityStep (rsParity d) b := by
  rw [rsParity, List.foldl_append]
  rfl

theorem hornerEval_zeros (n : Nat) (x : Byte) : hornerEval (zeros n) x = 0#8 := by
  induction n with
  | zero => rfl
  | succ n ih =>
    rw [zeros, List.replicate_succ', hornerEval_concat, ← zeros, ih, gmul_zero_left]
    rfl

/-- The parity is `D(x) * x^32` modulo `g(x)`: the two agree at every root of `g` (R216). -/
theorem hornerEval_rsParity (d : List Byte) {j : Nat} (hj : j < 32) :
    hornerEval (rsParity d) (apow j) = gmul (hornerEval d (apow j)) (apow ((j * 32 : Nat) : Int)) := by
  induction d using List.reverseRecOn with
  | nil => rw [show hornerEval [] (apow j) = 0#8 from rfl, gmul_zero_left]; exact hornerEval_zeros 32 _
  | append_singleton d b ih =>
    rw [rsParity_concat, hornerEval_parityStep (rsParity_length d) b hj, ih, hornerEval_concat, gmul_xor_left, gmul_assoc,
      gmul_assoc, gmul_comm (apow j)]

theorem rsEncode_isCodeword (d : List Byte) : IsCodeword (rsEncode d) := by
  intro j hj
  have hlength : (j : Int) * (rsParity d).length = ((j * 32 : Nat) : Int) := by rw [rsParity_length, Nat.cast_mul, Nat.cast_ofNat]
  rw [rsEncode, hornerEval_append, hornerEval_rsParity d hj, hlength]
  exact BitVec.xor_self

/-! ## The decoder on a codeword and in general -/

theorem syndromes_eq (r : List Byte) : syndromes r = (List.range 32).map (fun j : Nat => hornerEval r (apow j)) := by
  rw [List.map_eq_flatMap]
  simp [syndromes, rsPar, List.map_flatMap]

theorem syndromes_getD (r : List Byte) {j : Nat} (hj : j < 32) : (syndromes r).getD j 0 = hornerEval r (apow j) := by
  simp [syndromes_eq, hj]

theorem syndromes_all_zero_iff (r : List Byte) : (syndromes r).all (· == 0) = true ↔ IsCodeword r := by
  simp [syndromes_eq, IsCodeword]

/-- A codeword is returned as it is (R220). -/
theorem rsDecode_of_codeword {r : List Byte} (h : IsCodeword r) : rsDecode r = .corrected 0 r :=
  if_pos ((syndromes_all_zero_iff r).mpr h)

/-- `Lam[0..L]`, which the root search and the evaluator work with (R222, R224). -/
def foundLocator (r : List Byte) : List Byte :=
  (errorLocator (syndromes r)).lam.take ((errorLocator (syndromes r)).len + 1)

/-- The error positions found in a word (R222). -/
def foundPositions (r : List Byte) : List Nat := errorPositions (foundLocator r)

theorem rsDecode_of_not_codeword {r : List Byte} (h : ¬IsCodeword r) :
    rsDecode r =
      if locatorFails (errorLocator (syndromes r)).len (foundPositions r) r.length then .uncorrectable
      else .corrected (errorLocator (syndromes r)).len ((foundPositions r).foldl
        (correctAt (evaluatorPoly (syndromes r) (foundLocator r)) (derivPoly (foundLocator r))) r) :=
  if_neg (mt (syndromes_all_zero_iff r).mp h)

theorem locatorFails_eq_false_iff {len n : Nat} {ps : List Nat} :
    locatorFails len ps n = false ↔ len ≤ 16 ∧ ps.length = len ∧ ∀ p ∈ ps, p < n := by
  simp only [locatorFails, Bool.or_eq_false_iff, decide_eq_false_iff_not, not_lt, not_not, List.any_eq_false,
    decide_eq_true_eq, not_le, and_assoc]
  exact Iff.rfl

theorem correctAt_getD_of_ne (om lamD r : List Byte) {p i : Nat} (h : i ≠ r.length - 1 - p) :
    (correctAt om lamD r p).getD i 0 = r.getD i 0 := by
  rw [correctAt, List.getD_eq_getElem?_getD, List.getElem?_set_ne h.symm, ← List.getD_eq_getElem?_getD]

/-- The correction touches only the bytes at the positions found (R225). -/
theorem foldl_correctAt_getD (om lamD : List Byte) (ps : List Nat) (r : List Byte) {i : Nat}
    (h : i ∉ ps.map (r.length - 1 - ·)) : (ps.foldl (correctAt om lamD) r).getD i 0 = r.getD i 0 := by
  induction ps generalizing r with
  | nil => rfl
  | cons p ps ih =>
    obtain ⟨hp, hps⟩ := not_or.mp (mt List.mem_cons.mpr h)
    rw [List.foldl_cons, ih _ (by rwa [correctAt_length]), correctAt_getD_of_ne om lamD r hp]

/-- The indices, in a word of length `n`, at which two words differ. -/
def changedBytes (n : Nat) (w r : List Byte) : List Nat := (List.range n).filter (fun i => w.getD i 0 != r.getD i 0)

theorem changedBytes_self (n : Nat) (r : List Byte) : changedBytes n r r = [] := by simp [changedBytes]

theorem changedBytes_foldl_correctAt (om lamD : List Byte) (ps : List Nat) (r : List Byte) (n : Nat) :
    (changedBytes n (ps.foldl (correctAt om lamD) r) r).length ≤ ps.length := by
  have hsubset : changedBytes n (ps.foldl (correctAt om lamD) r) r ⊆ ps.map (r.length - 1 - ·) := by
    intro i hi
    by_contra hmem
    rw [changedBytes, List.mem_filter, foldl_correctAt_getD om lamD ps r hmem] at hi
    simp at hi
  have hnodup : (changedBytes n (ps.foldl (correctAt om lamD) r) r).Nodup := List.nodup_range.filter _
  calc _ ≤ (ps.map (r.length - 1 - ·)).length := (hnodup.subperm hsubset).length_le
    _ = ps.length := List.length_map _

/-- A corrected word differs from the received one in at most as many bytes as were counted, at most 16 (R223, R225). -/
theorem rsDecode_corrected_bound {r cw : List Byte} {cnt : Nat} (h : rsDecode r = .corrected cnt cw) (n : Nat) :
    cnt ≤ 16 ∧ (changedBytes n cw r).length ≤ cnt := by
  by_cases hcode : IsCodeword r
  · rw [rsDecode_of_codeword hcode] at h
    cases h
    simp [changedBytes_self]
  · rw [rsDecode_of_not_codeword hcode] at h
    split at h
    · cases h
    · next hfails =>
      cases h
      obtain ⟨hlen, hcount, -⟩ := locatorFails_eq_false_iff.mp (Bool.eq_false_of_not_eq_true hfails)
      exact ⟨hlen, (changedBytes_foldl_correctAt _ _ _ r n).trans hcount.le⟩

/-! ## The commands -/

theorem exec_of_reported_LD {i : Instr} {s t : State} {e : CmdError} {d : Byte} (hformat : i.format = .LD)
    (hlen : s.host.din.length = i.len) (hbody : bodyOf i s.host.din (s.setDin []).clearResults = .reported t e d) :
    exec i s = .next (t.takeError e d) := by
  rw [exec_eq, if_pos hformat, runLD_of_eq _ s _ hlen, runZ_eq, hbody]
  rfl

theorem operandBytes_map_byteEntry (bs : List Byte) : operandBytes (bs.map byteEntry) = bs := by
  have hbyte (b : Byte) : entryByte (byteEntry b) = b := by
    apply BitVec.eq_of_getLsbD_eq
    intro i hi
    simp [entryByte, byteEntry, hi]
    omega
  rw [operandBytes, List.map_map, show entryByte ∘ byteEntry = id from funext hbyte, List.map_id]

theorem fecEncodeBody_of_room {s : State} {operand : List Entry} (hlen : operand.length ≤ 223)
    (hroom : s.host.dout.length + operand.length + 32 ≤ s.params.doutCap) :
    fecEncodeBody operand s = .success
      (((s.pushDout ((rsEncode (operandBytes operand)).map byteEntry)).countEncode).setResult0
        (resultWord (operand.length + 32))) := by
  have hfits : ¬s.doutLacks (operand.length + rsPar) := not_lt.mpr (by rwa [← Nat.add_assoc])
  rw [fecEncodeBody, if_neg (show ¬rsK < operand.length from not_lt.mpr hlen), if_neg hfits]
  rfl

/-- `FEC_ENCODE` of all of `DIN`, where `DOUT` has the room (R217). -/
theorem exec_fecEncode {s : State} {len : Nat} (hdin : s.host.din.length = len) (hlen : len ≤ 223)
    (hroom : s.host.dout.length + len + 32 ≤ s.params.doutCap) :
    exec (.fecEncode len) s = .next { s with
      host := s.host.afterLD ((rsEncode (operandBytes s.host.din)).map byteEntry) (BitVec.ofNat 32 (len + 32)) 0
      fec := { s.fec with encodes := satInc s.fec.encodes } } := by
  subst hdin
  exact exec_of_success_LD (i := .fecEncode _) rfl rfl (fecEncodeBody_of_room (s := (s.setDin []).clearResults) hlen hroom)

/-- Settles O31: the parity is the one the generator's roots fix. -/
theorem fecEncodeAppendsASystematicCodeword : Obligations.FecEncodeAppendsASystematicCodeword :=
  fun s _ hdin hlen hroom => ⟨rsParity (operandBytes s.host.din), rsParity_length _, rsEncode_isCodeword _,
    exec_fecEncode hdin hlen hroom⟩

section Decode

variable {s : State} {operand : List Entry} (hmin : 32 ≤ operand.length) (hmax : operand.length ≤ 255)
  (hroom : s.host.dout.length + operand.length ≤ s.params.doutCap)

include hmin hmax

theorem codeword_length_legal : ¬(operand.length < rsPar ∨ rsN < operand.length) :=
  not_or.mpr ⟨not_lt.mpr hmin, not_lt.mpr hmax⟩

include hroom

theorem fecDecodeBody_of_corrected {cnt : Nat} {cw : List Byte} (h : rsDecode (operandBytes operand) = .corrected cnt cw) :
    fecDecodeBody operand s = .success
      (((s.countDecode.countCorrected cnt).pushDout (cw.map byteEntry)).setResult0 (resultWord cnt)) := by
  rw [fecDecodeBody, if_neg (codeword_length_legal hmin hmax), if_neg (not_lt.mpr hroom), h]

theorem fecDecodeBody_of_uncorrectable (h : rsDecode (operandBytes operand) = .uncorrectable) :
    fecDecodeBody operand s = .reported s.countDecode.countUncorrectable .uncorrectableFec 0 := by
  rw [fecDecodeBody, if_neg (codeword_length_legal hmin hmax), if_neg (not_lt.mpr hroom), h]

end Decode

/-- `FEC_DECODE` of a word that decodes (R227). -/
theorem exec_fecDecode_of_corrected {s : State} {len cnt : Nat} {cw : List Byte} (hdin : s.host.din.length = len)
    (hmin : 32 ≤ len) (hmax : len ≤ 255) (hroom : s.host.dout.length + len ≤ s.params.doutCap)
    (h : rsDecode (operandBytes s.host.din) = .corrected cnt cw) :
    exec (.fecDecode len) s = .next { s with
      host := s.host.afterLD (cw.map byteEntry) (BitVec.ofNat 32 cnt) 0
      fec := { s.fec with
        decodes := satInc s.fec.decodes
        clean := if cnt = 0 then satInc s.fec.clean else s.fec.clean
        corrected := satInc s.fec.corrected cnt } } := by
  subst hdin
  exact exec_of_success_LD (i := .fecDecode _) rfl rfl
    (fecDecodeBody_of_corrected (s := (s.setDin []).clearResults) hmin hmax hroom h)

/-- `FEC_DECODE` of a word that does not decode (R227). -/
theorem exec_fecDecode_of_uncorrectable {s : State} {len : Nat} (hdin : s.host.din.length = len)
    (hmin : 32 ≤ len) (hmax : len ≤ 255) (hroom : s.host.dout.length + len ≤ s.params.doutCap)
    (h : rsDecode (operandBytes s.host.din) = .uncorrectable) :
    exec (.fecDecode len) s = .next { s.raisedLD 0x05 0 with
      fec := { s.fec with
        decodes := satInc s.fec.decodes
        uncorrectable := satInc s.fec.uncorrectable } } := by
  subst hdin
  exact exec_of_reported_LD (i := .fecDecode _) rfl rfl
    (fecDecodeBody_of_uncorrectable (s := (s.setDin []).clearResults) hmin hmax hroom h)

/-- Settles O32: an encoded word is a codeword, and a codeword decodes to itself. -/
theorem fecDecodeOfAnEncodedWordIsClean : Obligations.FecDecodeOfAnEncodedWordIsClean := by
  intro s d hd hdin hroom
  have hlen : s.host.din.length = d.length + 32 := by rw [hdin, List.length_map, rsEncode_length]
  have hdecode : rsDecode (operandBytes s.host.din) = .corrected 0 (rsEncode d) := by
    rw [hdin, operandBytes_map_byteEntry, rsDecode_of_codeword (rsEncode_isCodeword d)]
  rw [exec_fecDecode_of_corrected hlen (Nat.le_add_left ..) (Nat.add_le_add_right hd 32) hroom hdecode, satInc_zero]
  rfl

/-- Settles O34: the two results of the decoder, the first with the bound on its count. -/
theorem fecDecodeCorrectsOrReports : Obligations.FecDecodeCorrectsOrReports := by
  intro s len hdin hmin hmax hroom r
  refine ⟨fun cnt cw h => ?_, exec_fecDecode_of_uncorrectable hdin hmin hmax hroom⟩
  obtain ⟨hcount, hchanged⟩ := rsDecode_corrected_bound h len
  have hlength : cw.length = len := by rw [rsDecode_length h, operandBytes_length, hdin]
  exact ⟨exec_fecDecode_of_corrected hdin hmin hmax hroom h, hcount, hlength, hchanged⟩

/-- Settles O35: the sum fits 32 bits, and the difference fits 32 bits with a sign. -/
theorem fecLengthCommandsArePureArithmetic : Obligations.FecLengthCommandsArePureArithmetic := by
  intro s len hlen
  refine ⟨⟨_, exec_of_success (i := .fecEncodedLen len) nofun rfl, ?sum, rfl, ?_⟩,
    ⟨_, exec_of_success (i := .fecDataLen len) nofun rfl, ?difference, rfl, ?_⟩⟩
  case sum =>
    have hsum : len + 32 < 2 ^ 32 := by omega
    exact Nat.mod_eq_of_lt hsum
  case difference =>
    change (BitVec.ofInt 32 ((len : Int) - 32)).toInt = (len : Int) - 32
    rw [BitVec.toInt_ofInt]
    exact Int.bmod_eq_of_le (by omega) (by omega)
  all_goals constructor <;> rfl

end Sys2Proof.Machine
end

section
/-! One changed byte (spec/42_fec.md rules R220 to R228 (b)): its syndromes are a geometric sequence, the locator settles on
the one polynomial with that ratio after two steps, and the root search and the evaluator read position and difference off
it. -/

namespace Sys2Proof.Machine

/-! ## The locator's step, case by case (R221) -/

section Step

variable {syn : List Byte} {st : LocatorRegs} {r : Nat}

theorem locatorStep_of_settled (hd : discrepancy syn st r = 0#8) : locatorStep syn st r = { st with m := st.m + 1 } :=
  if_pos hd

theorem locatorStep_of_longer (hd : discrepancy syn st r ≠ 0#8) (hlen : 2 * st.len ≤ r) :
    locatorStep syn st r =
      { lam := addShifted st.lam st.bpol st.m (gdiv (discrepancy syn st r) st.b), bpol := st.lam, len := r + 1 - st.len,
        m := 1, b := discrepancy syn st r } :=
  (if_neg hd).trans (if_pos hlen)

theorem locatorStep_of_same_length (hd : discrepancy syn st r ≠ 0#8) (hlen : r < 2 * st.len) :
    locatorStep syn st r =
      { st with lam := addShifted st.lam st.bpol st.m (gdiv (discrepancy syn st r) st.b), m := st.m + 1 } :=
  (if_neg hd).trans (if_neg (not_le.mpr hlen))

/-- The discrepancy of a locator of length 1. -/
theorem discrepancy_of_len_one (hlen : st.len = 1) (r : Nat) :
    discrepancy syn st r = syn.getD r 0 ^^^ gmul (st.lam.getD 1 0) (syn.getD (r - 1) 0) := by
  simp [discrepancy, hlen, xorAll]

/-- Once the discrepancies vanish only the shift goes on counting. -/
theorem foldl_locatorStep_of_settled (rs : List Nat) (m : Nat)
    (h : ∀ r ∈ rs, ∀ m, discrepancy syn { st with m := m } r = 0#8) :
    rs.foldl (locatorStep syn) { st with m := m } = { st with m := m + rs.length } := by
  induction rs generalizing m with
  | nil => rfl
  | cons r rs ih =>
    obtain ⟨hr, hrs⟩ := List.forall_mem_cons.mp h
    rw [List.foldl_cons, locatorStep_of_settled (hr m), ih (m + 1) hrs, List.length_cons, Nat.add_assoc, Nat.add_comm 1]

theorem zeros_getD (n k : Nat) : (zeros n).getD k 0 = 0#8 := by
  rw [zeros, List.getD_eq_getElem?_getD, List.getElem?_replicate]
  split <;> rfl

/-- Adding `c * x` to a locator of degree 1. -/
theorem addShifted_linear (a c : Byte) :
    addShifted (1 :: a :: zeros 31) (1 :: zeros 32) 1 c = 1 :: (a ^^^ c) :: zeros 31 := by
  refine List.ext_getElem rfl fun k _ hk => ?_
  rw [← List.getD_eq_getElem _ 0 hk]
  simp only [addShifted, List.getElem_map, List.getElem_range]
  obtain _ | _ | k := k
  · rfl
  · simp
  · rw [if_pos (show 1 ≤ k + 1 + 1 from Nat.succ_pos _)]
    change (zeros 31).getD k 0 ^^^ gmul c ((zeros 32).getD k 0) = (zeros 31).getD k 0
    rw [zeros_getD, zeros_getD, gmul_zero_right, BitVec.xor_zero]

end Step

/-! ## The syndromes of one changed byte -/

/-- The syndromes that a difference `e` at position `p` leaves (R214, R220). -/
def SingleErrorSyndromes (syn : List Byte) (p : Nat) (e : Byte) : Prop :=
  ∀ j : Nat, j < 32 → syn.getD j 0 = gmul e (apow ((j * p : Nat) : Int))

theorem hornerEval_set (j : Nat) (e : Byte) (r : List Byte) {i : Nat} (hi : i < r.length) :
    hornerEval (r.set i (r.getD i 0 ^^^ e)) (apow j) =
      hornerEval r (apow j) ^^^ gmul e (apow ((j * (r.length - 1 - i) : Nat) : Int)) := by
  induction r generalizing i with
  | nil => exact absurd hi (Nat.not_lt_zero i)
  | cons b r ih =>
    cases i with
    | zero =>
      rw [List.set_cons_zero, List.getD_cons_zero, hornerEval_cons, hornerEval_cons, gmul_xor_left, Nat.cast_mul]
      ac_rfl
    | succ i =>
      have hexponent : (b :: r).length - 1 - (i + 1) = r.length - 1 - i := by rw [List.length_cons]; omega
      rw [List.set_cons_succ, List.getD_cons_succ, hornerEval_cons, hornerEval_cons, List.length_set,
        ih (Nat.lt_of_succ_lt_succ hi), hexponent, BitVec.xor_assoc]

theorem syndromes_of_one_change {r : List Byte} (h : IsCodeword r) {i : Nat} (hi : i < r.length) (e : Byte) :
    SingleErrorSyndromes (syndromes (r.set i (r.getD i 0 ^^^ e))) (r.length - 1 - i) e := by
  intro j hj
  rw [syndromes_getD _ hj, hornerEval_set j e r hi, h j hj]
  exact BitVec.zero_xor

section Syndromes

variable {syn : List Byte} {p : Nat} {e : Byte} (hsyn : SingleErrorSyndromes syn p e)

include hsyn

theorem singleError_syndrome_zero : syn.getD 0 0 = e := by
  rw [hsyn 0 (by decide), Nat.zero_mul, Nat.cast_zero, apow_zero, gmul_one_right]

/-- Each syndrome is the one before it times `alpha^p`. -/
theorem singleError_syndrome_succ {j : Nat} (hj : j + 1 < 32) :
    syn.getD (j + 1) 0 = gmul (apow p) (syn.getD j 0) := by
  have hexponent : (((j + 1) * p : Nat) : Int) = p + (j * p : Nat) := by push_cast; ring
  rw [hsyn (j + 1) hj, hsyn j (Nat.lt_of_succ_lt hj), hexponent, ← gmul_apow, ← gmul_assoc, ← gmul_assoc,
    gmul_comm e]

/-! ## The locator -/

/-- The registers after step 0: the locator is `1 + e * x`. -/
theorem locatorStep_first (he : e ≠ 0#8) :
    locatorStep syn locatorInit 0 = { lam := 1 :: e :: zeros 31, bpol := 1 :: zeros 32, len := 1, m := 1, b := e } := by
  have hd : discrepancy syn locatorInit 0 = e := by
    rw [← singleError_syndrome_zero hsyn]
    exact BitVec.xor_zero
  have hlam : addShifted locatorInit.lam locatorInit.bpol locatorInit.m (gdiv e locatorInit.b) = 1 :: e :: zeros 31 :=
    calc addShifted (1 :: 0 :: zeros 31) (1 :: zeros 32) 1 (gmul e 1)
      _ = 1 :: (0#8 ^^^ gmul e 1#8) :: zeros 31 := addShifted_linear 0 _
      _ = 1 :: e :: zeros 31 := by rw [gmul_one_right, BitVec.zero_xor]
  rw [locatorStep_of_longer (hd.symm ▸ he) (Nat.le_refl 0), hd, hlam]
  rfl

/-- Step 1 turns the coefficient to `alpha^p`, whatever it was. -/
theorem locatorStep_second (he : e ≠ 0#8) :
    ∃ m, locatorStep syn { lam := 1 :: e :: zeros 31, bpol := 1 :: zeros 32, len := 1, m := 1, b := e } 1 =
      { lam := 1 :: apow p :: zeros 31, bpol := 1 :: zeros 32, len := 1, m := m, b := e } := by
  generalize hst : ({ lam := 1 :: e :: zeros 31, bpol := 1 :: zeros 32, len := 1, m := 1, b := e } : LocatorRegs) = st
  have hlen : st.len = 1 := hst ▸ rfl
  have hd : discrepancy syn st 1 = gmul e (apow p ^^^ e) := by
    rw [discrepancy_of_len_one hlen, singleError_syndrome_succ hsyn (by decide), singleError_syndrome_zero hsyn,
      gmul_comm, gmul_xor_right, ← hst]
    rfl
  have hdiv : gdiv (discrepancy syn st 1) e = apow p ^^^ e := by
    rw [hd, gdiv, gmul_comm e, gmul_assoc, gmul_ginv he, gmul_one_right]
  by_cases hzero : discrepancy syn st 1 = 0#8
  · have hratio : apow p = e := by
      rw [hzero, gdiv, gmul_zero_left] at hdiv
      exact BitVec.xor_eq_zero_iff.mp hdiv.symm
    rw [locatorStep_of_settled hzero, ← hst, hratio]
    exact ⟨_, rfl⟩
  · have hcoeff : e ^^^ (apow p ^^^ e) = apow p := by
      rw [BitVec.xor_comm, BitVec.xor_assoc, BitVec.xor_self, BitVec.xor_zero]
    have hlam : addShifted st.lam st.bpol st.m (gdiv (discrepancy syn st 1) st.b) = 1 :: apow p :: zeros 31 := by
      subst hst
      rw [hdiv, addShifted_linear, hcoeff]
    rw [locatorStep_of_same_length hzero (by omega), hlam, ← hst]
    exact ⟨_, rfl⟩

/-- The locator of one changed byte at position `p` is `1 + alpha^p * x` (R221). -/
theorem errorLocator_of_single (he : e ≠ 0#8) :
    (errorLocator syn).len = 1 ∧ (errorLocator syn).lam = 1 :: apow p :: zeros 31 := by
  obtain ⟨m, hsecond⟩ := locatorStep_second hsyn he
  generalize hst : ({ lam := 1 :: apow p :: zeros 31, bpol := 1 :: zeros 32, len := 1, m := m, b := e } : LocatorRegs) = st
    at hsecond
  have hlen : st.len = 1 := hst ▸ rfl
  have hlam : st.lam = 1 :: apow p :: zeros 31 := hst ▸ rfl
  have hsettled : ∀ r ∈ List.range' 2 30, ∀ m, discrepancy syn { st with m := m } r = 0#8 := by
    intro r hr m
    obtain ⟨hlo, hhi⟩ := List.mem_range'_1.mp hr
    obtain ⟨j, rfl⟩ := Nat.exists_eq_add_of_le' (show 1 ≤ r by omega)
    rw [discrepancy_of_len_one (st := { st with m := m }) hlen, singleError_syndrome_succ hsyn (by omega), hlam]
    exact BitVec.xor_self
  have hsteps : errorLocator syn = { st with m := st.m + (List.range' 2 30).length } := by
    rw [errorLocator, show List.range rsPar = 0 :: 1 :: List.range' 2 30 from rfl, List.foldl_cons, List.foldl_cons,
      locatorStep_first hsyn he, hsecond]
    exact foldl_locatorStep_of_settled _ st.m hsettled
  rw [hsteps]
  exact ⟨hlen, hlam⟩

/-! ## The evaluator -/

/-- The evaluator polynomial of one changed byte is its difference (R224). -/
theorem evaluatorPoly_of_single : evaluatorPoly syn [1, apow p] = e :: zeros 31 := by
  refine List.ext_getElem rfl fun k hlt hk => ?_
  have hk32 : k < 32 := hk
  rw [← List.getD_eq_getElem _ 0 hk]
  simp only [evaluatorPoly, List.getElem_map, List.getElem_range]
  obtain _ | k := k
  · rw [← singleError_syndrome_zero hsyn]
    simp [xorAll]
  · have hterms : List.range (min (k + 1) ([1, apow p].length - 1) + 1) = [0, 1] := by
      rw [show min (k + 1) ([1, apow p].length - 1) = 1 from Nat.min_eq_right (Nat.succ_pos k)]
      rfl
    rw [hterms, List.getD_cons_succ, zeros_getD]
    change 0#8 ^^^ gmul 1#8 (syn.getD (k + 1) 0) ^^^ gmul (apow p) (syn.getD k 0) = 0#8
    rw [gmul_one_left, singleError_syndrome_succ hsyn hk32, BitVec.zero_xor, BitVec.xor_self]

end Syndromes

/-! ## Root search and magnitude -/

theorem polyEval_zeros (n : Nat) (x : Byte) : polyEval (zeros n) x = 0#8 := by
  induction n with
  | zero => rfl
  | succ n ih =>
    change 0#8 ^^^ gmul (polyEval (zeros n) x) x = 0#8
    rw [ih, gmul_zero_left, BitVec.xor_zero]

theorem polyEval_cons (c : Byte) (p : List Byte) (x : Byte) : polyEval (c :: p) x = c ^^^ gmul (polyEval p x) x := rfl

theorem polyEval_constant (c : Byte) (n : Nat) (x : Byte) : polyEval (c :: zeros n) x = c := by
  rw [polyEval_cons, polyEval_zeros, gmul_zero_left, BitVec.xor_zero]

/-- `1 + alpha^p * x` has the one root `alpha^-p` (R222). -/
theorem polyEval_linear_eq_zero_iff (p q : Int) : polyEval [1, apow p] (apow (-q)) = 0#8 ↔ (p - q) % 255 = 0 := by
  have hvalue : polyEval [1, apow p] (apow (-q)) = 1#8 ^^^ apow (p - q) := by
    rw [polyEval_cons, show polyEval [apow p] (apow (-q)) = apow p from polyEval_constant _ 0 _, gmul_apow, sub_eq_add_neg]
    rfl
  rw [hvalue, BitVec.xor_eq_zero_iff, eq_comm, apow_eq_one_iff]

theorem errorPositions_of_single {p : Nat} (hp : p < 255) : errorPositions [1, apow p] = [p] := by
  have hroot : ∀ q ∈ List.range rsN, (polyEval [1, apow p] (apow (-(q : Int))) == 0) = (q == p) := by
    intro q hq
    have hq : q < 255 := List.mem_range.mp hq
    rw [Bool.eq_iff_iff, beq_iff_eq, beq_iff_eq]
    exact (polyEval_linear_eq_zero_iff p q).trans (by omega)
  have hcount : (List.range rsN).count p = 1 := List.count_eq_one_of_mem List.nodup_range (List.mem_range.mpr hp)
  rw [errorPositions, List.filter_congr hroot, List.filter_beq, hcount]
  rfl

theorem errorMagnitude_of_single (e : Byte) (p n : Nat) :
    errorMagnitude (e :: zeros n) (derivPoly [1, apow p]) p = e := by
  have hderiv (x : Byte) : polyEval (derivPoly [1, apow p]) x = apow p := polyEval_constant (apow p) 0 x
  rw [errorMagnitude, polyEval_constant, hderiv, gmul_gdiv_cancel (apow_ne_zero p)]

/-! ## The decoder -/

/-- The change is undone: the position found is that of the byte, and the difference cancels (R225). -/
theorem correctAt_undoes (r : List Byte) {i : Nat} (hi : i < r.length) (e : Byte) {om lamD : List Byte}
    (hmagnitude : errorMagnitude om lamD (r.length - 1 - i) = e) :
    correctAt om lamD (r.set i (r.getD i 0 ^^^ e)) (r.length - 1 - i) = r := by
  have hindex : r.length - 1 - (r.length - 1 - i) = i := by omega
  have hbyte : r.getD i 0 ^^^ e ^^^ e = r[i] := by
    rw [BitVec.xor_assoc, BitVec.xor_self, BitVec.xor_zero, List.getD_eq_getElem _ _ hi]
  have hread : (r.set i (r.getD i 0 ^^^ e)).getD i 0 = r.getD i 0 ^^^ e := by
    rw [List.getD_eq_getElem _ _ (by rwa [List.length_set]), List.getElem_set_self]
  rw [correctAt, List.length_set, hindex, hmagnitude, hread, hbyte, List.set_set, List.set_getElem_self]

/-- Settles O33: the locator of one changed byte has its position as its one root, and the magnitude there is the
difference. -/
theorem singleByteErrorIsCorrected : Obligations.SingleByteErrorIsCorrected := by
  intro r i e _ hmax hcode hi he
  generalize hword : r.set i (r.getD i 0 ^^^ e) = w
  have hsyn : SingleErrorSyndromes (syndromes w) (r.length - 1 - i) e := hword ▸ syndromes_of_one_change hcode hi e
  have hnot : ¬IsCodeword w := by
    intro hw
    rw [← singleError_syndrome_zero hsyn, syndromes_getD w (by decide)] at he
    exact he (hw 0 (by decide))
  obtain ⟨hlen, hlam⟩ := errorLocator_of_single hsyn he
  have hlocator : foundLocator w = [1, apow ((r.length - 1 - i : Nat) : Int)] := by
    rw [foundLocator, hlen, hlam]
    rfl
  have hpositions : foundPositions w = [r.length - 1 - i] := by
    rw [foundPositions, hlocator, errorPositions_of_single (by omega)]
  have hpasses : locatorFails 1 [r.length - 1 - i] w.length = false := by
    rw [locatorFails_eq_false_iff, ← hword, List.length_set]
    exact ⟨by decide, rfl, List.forall_mem_singleton.mpr (by omega)⟩
  rw [rsDecode_of_not_codeword hnot, hlen, hpositions, hpasses, hlocator, evaluatorPoly_of_single hsyn, ← hword]
  exact congrArg (FecResult.corrected 1) (correctAt_undoes r hi e (errorMagnitude_of_single e _ 31))

end Sys2Proof.Machine
end

section
/-! Events, teardown and the errors that end a session (spec/43_session.md rules R272, R274 to R276, R290): what each leaves
for the host to see. -/

namespace Sys2Proof.Machine

/-! ## How a command ends -/

theorem exec_of_reported {i : Instr} {s t : State} {e : CmdError} {d : Byte} (hformat : i.format ≠ .LD)
    (hbody : bodyOf i [] s.clearResults = .reported t e d) : exec i s = .next (t.takeError e d) := by
  rw [exec_eq, if_neg hformat, runZ_eq, hbody]
  rfl

@[simp] theorem afterLD_nil (h : HostIf) (r0 r1 : Word) :
    h.afterLD [] r0 r1 = { h with din := [], result0 := r0, result1 := r1, errCode := 0, errDetail := 0 } := by
  simp [HostIf.afterLD]

@[simp] theorem afterZ_nil (h : HostIf) (r0 r1 : Word) :
    h.afterZ [] r0 r1 = { h with result0 := r0, result1 := r1, errCode := 0, errDetail := 0 } := by
  simp [HostIf.afterZ]

/-! ## Events -/

/-- An event word is its code in bits 7:0 and its argument above (R116). -/
theorem eventWord_eq (arg : Nat) {code : Nat} (hcode : code < 256) :
    eventWord code arg = BitVec.ofNat 32 (arg * 256 + code) := by
  apply BitVec.eq_of_toNat_eq
  simp only [eventWord, BitVec.toNat_append, BitVec.toNat_ofNat]
  rw [Nat.shiftLeft_eq, Nat.mul_comm, Nat.two_pow_add_eq_or_of_lt (Nat.mod_lt _ (by decide)) _ |>.symm]
  omega

theorem eventAppended_emit (s : State) (code arg : Nat) : EventAppended s (s.emit code arg) (eventWord code arg) where
  evq := by
    simp only [State.emit_queues, pushDropOldest, List.drop_one]
    split <;> rfl
  drops := by simp [countDrop, dropsOldest]
  flag := rfl

theorem noEvent_refl (s : State) : NoEvent s s := ⟨rfl, rfl, rfl⟩

/-- What the statements on events look at. -/
def State.eventView (s : State) : List Word × Word × Bool := (s.queues.evq, s.queues.evDrops, s.host.queueDrop)

theorem EventAppended.of_eventView {s s' t t' : State} {w : Word} (h : EventAppended s t w)
    (hparams : s'.params = s.params) (hs : s'.eventView = s.eventView) (ht : t'.eventView = t.eventView) :
    EventAppended s' t' w := by
  simp only [State.eventView, Prod.mk.injEq] at hs ht
  obtain ⟨sevq, sdrops, sflag⟩ := hs
  obtain ⟨tevq, tdrops, tflag⟩ := ht
  constructor
  · rw [tevq, sevq, hparams, h.evq]
  · rw [tdrops, sevq, sdrops, hparams, h.drops]
  · rw [tflag, sevq, sflag, hparams, h.flag]

theorem NoEvent.of_eventView {s s' t t' : State} (h : NoEvent s t) (hs : s'.eventView = s.eventView)
    (ht : t'.eventView = t.eventView) : NoEvent s' t' := by
  simp only [State.eventView, Prod.mk.injEq] at hs ht
  obtain ⟨sevq, sdrops, sflag⟩ := hs
  obtain ⟨tevq, tdrops, tflag⟩ := ht
  exact ⟨by rw [tevq, sevq, h.evq], by rw [tdrops, sdrops, h.drops], by rw [tflag, sflag, h.flag]⟩

/-! ## The event that announces the end of a live session -/

/-- `t` is `s` with the end of its session announced, if it was live, and nothing else emitted (R276, R290). -/
def TeardownAnnounced (s t : State) : Prop :=
  (s.sess.state = .established → EventAppended s t (if s.sess.hangupRemoteLatch then 0x00000108 else 0x00000008)) ∧
  (s.sess.state = .handshaking → EventAppended s t 0x00000603) ∧
  (s.sess.state ≠ .established → s.sess.state ≠ .handshaking → NoEvent s t)

/-- The statement looks at the session, the depth of the event queue, and the event queue before and after. -/
theorem TeardownAnnounced.of_eventView {s s' t t' : State} (h : TeardownAnnounced s t) (hsess : s'.sess = s.sess)
    (hparams : s'.params = s.params) (hs : s'.eventView = s.eventView) (ht : t'.eventView = t.eventView) :
    TeardownAnnounced s' t' := by
  obtain ⟨hest, hhs, hother⟩ := h
  rw [TeardownAnnounced, hsess]
  exact ⟨fun he => (hest he).of_eventView hparams hs ht, fun he => (hhs he).of_eventView hparams hs ht,
    fun he he' => (hother he he').of_eventView hs ht⟩

theorem emitTeardown_of_established {s : State} (h : s.sess.state = .established) :
    s.emitTeardown = s.emit 8 (bit s.sess.hangupRemoteLatch) := by
  rw [State.emitTeardown, h]

theorem emitTeardown_of_handshaking {s : State} (h : s.sess.state = .handshaking) : s.emitTeardown = s.emit 3 6 := by
  rw [State.emitTeardown, h]

theorem emitTeardown_of_dead {s : State} (hest : s.sess.state ≠ .established) (hhs : s.sess.state ≠ .handshaking) :
    s.emitTeardown = s := by
  unfold State.emitTeardown
  split
  · next h => exact absurd h hest
  · next h => exact absurd h hhs
  all_goals rfl

theorem emitTeardown_announced (s : State) : TeardownAnnounced s s.emitTeardown := by
  refine ⟨fun hest => ?_, fun hhs => ?_, fun hest hhs => ?_⟩
  · have hword : eventWord 8 (bit s.sess.hangupRemoteLatch) =
        if s.sess.hangupRemoteLatch then 0x00000108 else 0x00000008 := by
      cases s.sess.hangupRemoteLatch <;> rfl
    rw [emitTeardown_of_established hest, ← hword]
    exact eventAppended_emit s _ _
  · rw [emitTeardown_of_handshaking hhs]
    exact eventAppended_emit s 3 6
  · rw [emitTeardown_of_dead hest hhs]
    exact noEvent_refl s

/-- The announcement touches the event queue and its flag only (R316). -/
theorem emitTeardown_eq (s : State) : ∃ evq drops flag, s.emitTeardown = { s with
    host := { s.host with queueDrop := flag }
    queues := { s.queues with evq := evq, evDrops := drops } } := by
  by_cases hest : s.sess.state = .established
  · exact ⟨_, _, _, emitTeardown_of_established hest⟩
  · by_cases hhs : s.sess.state = .handshaking
    · exact ⟨_, _, _, emitTeardown_of_handshaking hhs⟩
    · exact ⟨_, _, _, emitTeardown_of_dead hest hhs⟩

theorem emitTeardown_host (s : State) :
    s.emitTeardown.host = { s.host with queueDrop := s.emitTeardown.host.queueDrop } := by
  obtain ⟨evq, drops, flag, heq⟩ := emitTeardown_eq s
  rw [heq]

/-! ## The wipe -/

theorem wipe_tornDown (s : State) : TornDown s s.wipe where
  mailbox := ⟨rfl, rfl, rfl⟩
  hangups := ⟨rfl, rfl, rfl⟩
  role := rfl
  blobs := ⟨rfl, rfl, rfl⟩
  fifos := ⟨rfl, rfl, rfl, rfl⟩
  modem := ⟨rfl, rfl⟩
  configuration := ⟨rfl, rfl⟩
  counters := ⟨rfl, rfl, rfl, rfl⟩
  interface := ⟨rfl, rfl, rfl, rfl, rfl, rfl⟩
  rest := ⟨rfl, rfl, rfl⟩

theorem emit_wipe_tornDown (s : State) (code arg : Nat) : TornDown s (s.emit code arg).wipe :=
  { wipe_tornDown (s.emit code arg) with }

theorem emitTeardown_wipe_tornDown (s : State) : TornDown s s.emitTeardown.wipe := by
  obtain ⟨evq, drops, flag, heq⟩ := emitTeardown_eq s
  rw [heq]
  exact { wipe_tornDown s with }

/-! ## The errors that end a session -/

/-- The state after an error that ends the session: its event, the wipe, `Terminated(Error)`, the report (R274, R275). -/
def State.endedBy (s : State) (code : Nat) (e : CmdError) (reason : Nat) : State :=
  ((s.emit code reason).wipe.terminate .error (BitVec.ofNat 8 reason)).takeError e (BitVec.ofNat 8 reason)

theorem endedBy_tornDown (s : State) (code : Nat) (e : CmdError) (reason : Nat) : TornDown s (s.endedBy code e reason) :=
  { emit_wipe_tornDown s code reason with }

theorem endedBy_terminatedError (s : State) (code : Nat) (e : CmdError) (reason : Nat) :
    TerminatedError (s.endedBy code e reason) (BitVec.ofNat 8 reason) where
  state := rfl
  kind := rfl
  reason := rfl
  secrets := { secretsZero_wipe s with }

theorem endedBy_eventAppended (s : State) {code : Nat} (hcode : code < 256) (e : CmdError) (reason : Nat) :
    EventAppended s (s.endedBy code e reason) (BitVec.ofNat 32 (reason * 256 + code)) := by
  rw [← eventWord_eq reason hcode]
  exact { eventAppended_emit s code reason with }

/-- What a command that ran in `s` shows after an error that ended the session: everything the statements say of `hs_fail`
and `fatal` (R274, R275). -/
def EndsInError (s t : State) (code reason : Byte) (w : Word) : Prop :=
  TornDown s t ∧ TerminatedError t reason ∧ t.host.errCode = code ∧ t.host.errDetail = reason ∧ t.host.cmdErr = true ∧
    t.host.result0 = 0 ∧ t.host.result1 = 0 ∧ EventAppended s t w

/-- The error may come when the operand is taken, the results are cleared and the session has already moved. -/
theorem endedBy_endsInError (s : State) (din : List Entry) (x : Session) {code : Nat} (hcode : code < 256) (e : CmdError)
    (reason : Nat) :
    EndsInError s
      (({ s with host := { s.host with din := din, result0 := 0, result1 := 0 }, sess := x } : State).endedBy code e reason)
      e.code (BitVec.ofNat 8 reason) (BitVec.ofNat 32 (reason * 256 + code)) := by
  refine ⟨{ endedBy_tornDown _ code e reason with }, endedBy_terminatedError _ code e reason, rfl, rfl, rfl, rfl, rfl, ?_⟩
  exact { endedBy_eventAppended _ hcode e reason with }

end Sys2Proof.Machine
end

section
/-! The session commands (spec/43_session.md rules R270 to R301): identity, handshake, timer, stop and hangup. -/

namespace Sys2Proof.Machine

/-! ## `hs_apply` (R273) -/

theorem postMessage_getD (x : Session) (out : Option (List Byte)) :
    x.postMessage out = { x with hsOut := out.getD x.hsOut, hsOutValid := x.hsOutValid || out.isSome } := by
  cases out <;> simp [Session.postMessage]

theorem hsApply_cont (s : State) (ctx : List Byte) (out : Option (List Byte)) :
    s.hsApply (.cont ctx out) = .success { s with sess := { s.sess with
      hsctx := ctx, hsOut := out.getD s.sess.hsOut, hsOutValid := s.sess.hsOutValid || out.isSome
      hsTimer := s.act.hsTimeout } } := by
  rw [State.hsApply, postMessage_getD]

/-- The session once the handshake is complete, before its two events. -/
def State.withKeysInstalled (s : State) (keys : List Byte) (out : Option (List Byte)) : State :=
  { s with sess := { s.sess with
    keys := keys, hsctx := zeros s.params.hsctxBytes, hsTimer := 0, state := .established
    hsOut := out.getD s.sess.hsOut, hsOutValid := s.sess.hsOutValid || out.isSome } }

theorem hsApply_complete (s : State) (keys : List Byte) (out : Option (List Byte)) :
    s.hsApply (.complete keys out) = .success (((s.withKeysInstalled keys out).emit 2 0).emit 4 0) := by
  rw [State.hsApply, postMessage_getD]
  rfl

/-- Settles O39: the two successes of `hs_apply`; between the two events of the second stands the state `u`. -/
theorem handshakeCompletionEstablishesTheSession : Obligations.HandshakeCompletionEstablishesTheSession := by
  refine ⟨hsApply_cont, fun s keys out => ?_⟩
  refine ⟨_, (s.withKeysInstalled keys out).emit 2 0, hsApply_complete s keys out, rfl, ?first, rfl, ?second, rfl, rfl, rfl,
    rfl, rfl, rfl, rfl, rfl, rfl, rfl, rfl⟩
  case first => exact { eventAppended_emit (s.withKeysInstalled keys out) 2 0 with }
  case second => exact eventAppended_emit _ 4 0

/-! ## `INITIALIZE` and `DERIVE_PUBKEY` (R276, R277) -/

/-- The state in which `INITIALIZE` ends, from the state in which its body runs. -/
def State.initialized (s : State) (kp : List Byte × List Byte) : State :=
  { s.emitTeardown.wipe with sess := { s.emitTeardown.wipe.sess with
    sk := kp.1, pk := kp.2, keypairValid := true, state := .idle, termKind := .noTerm, termReason := 0 } }

theorem initializeBody_of_seed (s : State) {operand : List Entry} (hlen : operand.length = 32) :
    initializeBody operand s = .success (s.initialized (xKeypair s.params (operandBytes operand))) :=
  if_neg (not_not.mpr hlen)

theorem exec_initialize {s : State} (hlen : s.host.din.length = 32) :
    exec (.initializeSession 32) s = .next
      ((s.setDin []).clearResults.initialized (xKeypair s.params (operandBytes s.host.din))).endSuccess :=
  exec_of_success_LD (i := .initializeSession 32) rfl hlen (initializeBody_of_seed (s.setDin []).clearResults hlen)

/-- Settles O36: a teardown, announced, and the keypair of the seed on top of it. -/
theorem initializeTearsDownAndInstallsTheKeypair : Obligations.InitializeTearsDownAndInstallsTheKeypair := by
  intro s hlen
  have htorn := emitTeardown_wipe_tornDown (s.setDin []).clearResults
  have hannounced := emitTeardown_announced (s.setDin []).clearResults
  have hhost := emitTeardown_host (s.setDin []).clearResults
  refine ⟨_, exec_initialize hlen, { htorn with }, rfl, rfl, rfl, rfl, rfl, congrArg HostIf.result0 hhost,
    congrArg HostIf.result1 hhost, rfl, rfl, (congrArg HostIf.cmdErr hhost :), ?_⟩
  exact hannounced.of_eventView rfl rfl rfl rfl

/-- `DERIVE_PUBKEY` of 32 seed bytes where `DOUT` has the room (R277). -/
theorem exec_derivePubkey {s : State} (hlen : s.host.din.length = 32)
    (hroom : s.host.dout.length + 32 ≤ s.params.doutCap) :
    exec (.derivePubkey 32) s = .next { s with
      host := s.host.afterLD ((xKeypair s.params (operandBytes s.host.din)).2.map byteEntry) 32 0 } :=
  exec_of_success_LD (i := .derivePubkey 32) rfl hlen
    ((if_neg (not_not.mpr hlen)).trans (if_neg (not_lt.mpr hroom)))

/-- Settles O37: both commands take the keypair of the same seed from the collaborator. -/
theorem derivedKeyIsTheKeyInitializeInstalls : Obligations.DerivedKeyIsTheKeyInitializeInstalls := fun _ hlen hroom =>
  ⟨_, exec_initialize hlen, (xKeypair_lengths _ _).2, exec_derivePubkey hlen hroom⟩

/-! ## The start commands (R278 to R280) -/

theorem startBody_of_peer (role : Role) {s : State} {operand : List Entry} (hstate : s.sess.state = .idle)
    (hlen : operand.length = 32) :
    startBody role operand s = (s.beginHandshake role (operandBytes operand)).hsApply
      (hsChecked s.params (xHsBegin s.params role s.sess.sk s.sess.pk (operandBytes operand))) :=
  (if_neg (not_not.mpr hstate)).trans (if_neg (not_not.mpr hlen))

/-- The statements' begun handshake is the machine's. -/
theorem handshakeBegun_eq (s : State) (role : Role) (peer : List Byte) :
    handshakeBegun s role peer = (s.setDin []).clearResults.beginHandshake role peer := by
  rw [State.beginHandshake, ← announced_eventWord]
  cases role <;> rfl

/-- A start command ends as `hs_apply` on the collaborator's answer does (R280). -/
theorem exec_startCommand {role : Role} {s : State} (hstate : s.sess.state = .idle) (hlen : s.host.din.length = 32) :
    exec (startCommand role 32) s = .next
      (((handshakeBegun s role (operandBytes s.host.din)).hsApply
        (hsChecked s.params (xHsBegin s.params role s.sess.sk s.sess.pk (operandBytes s.host.din)))).finish
          (s.setDin []).clearResults) := by
  have hbody := startBody_of_peer role (s := (s.setDin []).clearResults) hstate hlen
  have hexec : exec (startCommand role 32) s = runLD 32 (startBody role) s := by cases role <;> rfl
  rw [hexec, runLD_of_eq _ s _ hlen, runZ_eq, hbody, handshakeBegun_eq]
  rfl

theorem handshakeBegun_eventAppended (s : State) (role : Role) (peer : List Byte) :
    EventAppended s (handshakeBegun s role peer) (match role with | .server => 0x00000001 | .client => 0x00000101) := by
  rw [handshakeBegun_eq]
  cases role <;> exact { eventAppended_emit ((s.setDin []).clearResults) 1 _ with }

/-- Settles O38: what `hs_apply` makes of each answer in the begun handshake. -/
theorem startBeginsTheHandshakeOrTerminates : Obligations.StartBeginsTheHandshakeOrTerminates := by
  intro role s hstate hlen peer r
  have hexec : exec (startCommand role 32) s =
      .next (((handshakeBegun s role peer).hsApply r).finish (s.setDin []).clearResults) := exec_startCommand hstate hlen
  have hevent := handshakeBegun_eventAppended s role peer
  refine ⟨fun t ht => ?_, fun ctx out hr => ?_, fun reason hr => ?_⟩
  · rw [hexec, ht]
    rfl
  · rw [hr, hsApply_cont] at hexec
    refine ⟨_, hexec, rfl, hevent.of_eventView rfl rfl rfl, ?_, rfl, rfl, rfl, rfl, rfl, rfl, rfl, rfl, rfl, rfl⟩
    rw [afterLD_nil]
    rfl
  · rw [hr] at hexec
    have htorn := endedBy_tornDown (handshakeBegun s role peer) 3 .handshake reason
    exact ⟨_, hexec, { htorn with }, endedBy_terminatedError _ 3 .handshake reason, rfl, rfl, rfl, rfl, rfl, _, hevent, rfl,
      endedBy_eventAppended _ (by decide) .handshake reason⟩

/-! ## The mailbox (R285, R286) -/

/-- Settles O40: the three branches of the body. -/
theorem hsReadMovesTheMessageOrKeepsIt : Obligations.HsReadMovesTheMessageOrKeepsIt := by
  intro s
  have hfull (h : s.sess.hsOutValid = true) : ¬s.clearResults.sess.hsOutValid = false := by simp [h]
  refine ⟨fun hempty => ?_, fun hvalid hroom => ?_, fun hvalid hlacks => ?_⟩
  · exact exec_of_success (i := .hsRead) nofun (if_pos hempty)
  · exact exec_of_success (i := .hsRead) nofun ((if_neg (hfull hvalid)).trans (if_neg (not_lt.mpr hroom)))
  · exact exec_of_raised (i := .hsRead) nofun ((if_neg (hfull hvalid)).trans (if_pos hlacks))

section HsWrite

variable {s : State} {operand : List Entry} (hstate : s.sess.state = .handshaking) (hempty : s.sess.hsOutValid = false)

include hstate hempty

theorem hsWriteBody_of_fitting (hlen : operand.length ≤ s.params.hsMsgMax) :
    hsWriteBody operand s = s.hsApply (hsChecked s.params (xHsStep s.params s.sess.hsctx (operandBytes operand))) := by
  rw [hsWriteBody, if_neg (not_not.mpr hstate), if_neg (by simp [hempty]), if_neg (not_lt.mpr hlen)]

theorem hsWriteBody_of_long (hlen : s.params.hsMsgMax < operand.length) : hsWriteBody operand s = s.hsFail 2 := by
  rw [hsWriteBody, if_neg (not_not.mpr hstate), if_neg (by simp [hempty]), if_pos hlen]

end HsWrite

/-- Settles O41: what `hs_apply` makes of each answer, and the message that is too long to be asked about. -/
theorem hsWriteCompletesOrFailsTheHandshake : Obligations.HsWriteCompletesOrFailsTheHandshake := by
  intro s len hstate hempty hlen r begun
  have hbody (hfits : len ≤ s.params.hsMsgMax) : bodyOf (.hsWrite len) s.host.din begun = begun.hsApply r :=
    hsWriteBody_of_fitting (s := begun) hstate hempty (hlen.le.trans hfits)
  refine ⟨fun hfits t ht => ?success, fun hfits keys out hr => ?complete, fun hfits reason hr => ?fail, fun hlong => ?long⟩
  case success => exact exec_of_success_LD (i := .hsWrite len) rfl hlen ((hbody hfits).trans ht)
  case complete =>
    have hsuccess : begun.hsApply r = .success (((begun.withKeysInstalled keys out).emit 2 0).emit 4 0) := by
      rw [hr, hsApply_complete]
    have hfirst := eventAppended_emit (begun.withKeysInstalled keys out) 2 0
    have hsecond := eventAppended_emit ((begun.withKeysInstalled keys out).emit 2 0) 4 0
    refine ⟨_, _, exec_of_success_LD (i := .hsWrite len) rfl hlen ((hbody hfits).trans hsuccess), ?_, { hfirst with }, rfl,
      { hsecond with }, ?_, rfl, rfl, rfl, rfl, rfl, rfl, rfl, rfl, rfl, rfl⟩
    · simp [State.withKeysInstalled, begun, hempty]
    · rw [afterLD_nil]
      rfl
  case fail =>
    have hfail : begun.hsApply r = begun.hsFail reason := by rw [hr, State.hsApply]
    exact ⟨_, exec_of_reported_LD (i := .hsWrite len) rfl hlen ((hbody hfits).trans hfail),
      endedBy_endsInError s [] s.sess (by decide) .handshake reason⟩
  case long =>
    have hfail : bodyOf (.hsWrite len) s.host.din begun = begun.hsFail 2 :=
      hsWriteBody_of_long (s := begun) hstate hempty (hlong.trans_eq hlen.symm)
    exact ⟨_, exec_of_reported_LD (i := .hsWrite len) rfl hlen hfail,
      endedBy_endsInError s [] s.sess (by decide) .handshake 2⟩

/-! ## `TICK` (R296) -/

section Tick

variable {s : State} (hstate : s.sess.state = .handshaking)

theorem tickBody_of_idle (hidle : s.sess.state ≠ .handshaking ∨ s.sess.hsTimer = 0) :
    tickBody s = .success (s.setResult0 s.sess.hsTimer) :=
  if_neg (by simpa [or_iff_not_imp_left] using hidle)

include hstate

theorem tickBody_of_running (hmore : 2 ≤ s.sess.hsTimer.toNat) :
    tickBody s = .success (({ s with sess := { s.sess with hsTimer := s.sess.hsTimer - 1 } } : State).setResult0
      (s.sess.hsTimer - 1)) := by
  have hrunning : s.sess.hsTimer ≠ 0 := by bv_omega
  have hleft : s.sess.hsTimer - 1 ≠ 0 := by bv_omega
  exact (if_pos ⟨hstate, hrunning⟩).trans (if_neg hleft)

theorem tickBody_of_last (hlast : s.sess.hsTimer.toNat = 1) :
    tickBody s = ({ s with sess := { s.sess with hsTimer := s.sess.hsTimer - 1 } } : State).hsFail 1 := by
  have hrunning : s.sess.hsTimer ≠ 0 := by bv_omega
  have hleft : s.sess.hsTimer - 1 = 0 := by bv_omega
  exact (if_pos ⟨hstate, hrunning⟩).trans (if_pos hleft)

end Tick

/-- Settles O42: the timer counts, runs out, or stands still. -/
theorem tickCountsDownAndTimesOut : Obligations.TickCountsDownAndTimesOut := by
  intro s
  refine ⟨fun hstate hmore => ?running, fun hstate hlast => ?last, fun hidle => ?idle⟩
  case running =>
    rw [afterZ_nil]
    exact exec_of_success (i := .tick) nofun (tickBody_of_running (s := s.clearResults) hstate hmore)
  case last =>
    exact ⟨_, exec_of_reported (i := .tick) nofun (tickBody_of_last (s := s.clearResults) hstate hlast),
      endedBy_endsInError s s.host.din { s.sess with hsTimer := s.sess.hsTimer - 1 } (by decide) .handshake 1⟩
  case idle =>
    rw [afterZ_nil]
    exact exec_of_success (i := .tick) nofun (tickBody_of_idle (s := s.clearResults) hidle)

/-! ## `STOP` and `CONSUME_REMOTE_HANGUP` (R290, R294) -/

theorem exec_stop_of_terminated {s : State} (h : s.sess.state = .terminated) : exec .stopSession s = .next s.cleared :=
  exec_of_success (i := .stopSession) nofun (if_pos h)

theorem exec_stop_of_live {s : State} (h : s.sess.state ≠ .terminated) :
    exec .stopSession s = .next (s.clearResults.emitTeardown.wipe.terminate s.stopKind 0).endSuccess :=
  exec_of_success (i := .stopSession) nofun (if_neg h)

/-- A machine whose results and `ERR` are clear has nothing to clear. -/
theorem cleared_eq_self {s : State} (h0 : s.host.result0 = 0) (h1 : s.host.result1 = 0) (hcode : s.host.errCode = 0)
    (hdetail : s.host.errDetail = 0) : s.cleared = s :=
  calc s.cleared
    _ = { s with host := { s.host with
          result0 := s.host.result0, result1 := s.host.result1
          errCode := s.host.errCode, errDetail := s.host.errDetail } } := by rw [h0, h1, hcode, hdetail, State.cleared]
    _ = s := rfl

/-- Settles O43: in `Terminated` the body does nothing, from every other state it tears down and ends in `Terminated`. -/
theorem stopTerminatesFromEveryStateAndIsIdempotent : Obligations.StopTerminatesFromEveryStateAndIsIdempotent := by
  intro s
  refine ⟨exec_stop_of_terminated, fun hlive => ?_, fun t ht => ?_⟩
  · have htorn := emitTeardown_wipe_tornDown s.clearResults
    have hsecrets := secretsZero_wipe s.clearResults.emitTeardown
    have hannounced := emitTeardown_announced s.clearResults
    have hhost := emitTeardown_host s.clearResults
    refine ⟨_, exec_stop_of_live hlive, { htorn with }, { hsecrets with }, rfl, rfl, rfl, congrArg HostIf.result0 hhost,
      congrArg HostIf.result1 hhost, rfl, rfl, (congrArg HostIf.cmdErr hhost :), ?_⟩
    exact hannounced.of_eventView rfl rfl rfl rfl
  · by_cases hstate : s.sess.state = .terminated
    · obtain rfl : s.cleared = t := by simpa [exec_stop_of_terminated hstate] using ht
      exact exec_stop_of_terminated (s := s.cleared) hstate
    · obtain rfl : (s.clearResults.emitTeardown.wipe.terminate s.stopKind 0).endSuccess = t := by
        simpa [exec_stop_of_live hstate] using ht
      have hhost := emitTeardown_host s.clearResults
      refine (exec_stop_of_terminated rfl).trans (congrArg Host.Outcome.next (cleared_eq_self ?_ ?_ rfl rfl))
      · exact congrArg HostIf.result0 hhost
      · exact congrArg HostIf.result1 hhost

theorem exec_consumeRemoteHangup (s : State) : exec .consumeRemoteHangup s = .next { s with
    host := s.host.afterZ [] (if s.sess.hangupRemotePending then 1 else 0) 0
    sess := { s.sess with hangupRemotePending := false } } := by
  have hword : resultWord (bit s.sess.hangupRemotePending) = if s.sess.hangupRemotePending then 1 else 0 := by
    cases s.sess.hangupRemotePending <;> rfl
  rw [← hword, afterZ_nil]
  exact exec_of_success (i := .consumeRemoteHangup) nofun rfl

/-- Settles O44: the flag that the first command returned and cleared, the second finds cleared. -/
theorem consumeRemoteHangupReturnsTrueOnce : Obligations.ConsumeRemoteHangupReturnsTrueOnce := by
  intro s
  refine ⟨_, exec_consumeRemoteHangup s, rfl, ?_⟩
  rw [exec_consumeRemoteHangup]
  simp

end Sys2Proof.Machine
end

section
/-! The transition table of `STATE` (spec/43_session.md rule R270): where each body can leave the session, shared part by
shared part. -/

namespace Sys2Proof.Machine

/-! ## Where a body leaves `STATE` -/

/-- Whatever state the body leaves behind has its `STATE` in `P`; a raise leaves none behind (R19). -/
def Verdict.LeavesStateIn (P : SessState → Prop) : Verdict → Prop
  | .success t => P t.sess.state
  | .raised _ _ => True
  | .reported t _ _ => P t.sess.state

namespace Verdict.LeavesStateIn

variable {P Q : SessState → Prop} {v w : Verdict}

theorem success {t : State} (h : P t.sess.state) : (Verdict.success t).LeavesStateIn P := h

theorem raised {e : CmdError} {d : Byte} : (Verdict.raised e d).LeavesStateIn P := trivial

theorem reported {t : State} {e : CmdError} {d : Byte} (h : P t.sess.state) : (Verdict.reported t e d).LeavesStateIn P := h

theorem mono (h : v.LeavesStateIn P) (hsub : ∀ x, P x → Q x) : v.LeavesStateIn Q := by
  cases v with
  | success t => exact hsub _ h
  | raised e d => trivial
  | reported t e d => exact hsub _ h

theorem ite {c : Prop} [Decidable c] (hv : c → v.LeavesStateIn P) (hw : ¬c → w.LeavesStateIn P) :
    (if c then v else w).LeavesStateIn P := by
  split
  next hc => exact hv hc
  next hc => exact hw hc

theorem andThen {f : State → State} (h : v.LeavesStateIn P) (hf : ∀ t, (f t).sess.state = t.sess.state) :
    (v.andThen f).LeavesStateIn P := by
  cases v with
  | success t => exact (congrArg P (hf t)).mpr h
  | raised e d => trivial
  | reported t e d => exact h

theorem finish {pre : State} (h : v.LeavesStateIn P) (hpre : P pre.sess.state) : P (v.finish pre).sess.state := by
  cases v with
  | success t => exact h
  | raised e d => exact hpre
  | reported t e d => exact h

end Verdict.LeavesStateIn

open Verdict.LeavesStateIn (success raised reported ite)

/-! ## Bodies that leave `STATE` alone -/

section Still

variable (s : State) (operand : List Entry)

theorem setConfigBody_keepsState : (setConfigBody s).LeavesStateIn (· = s.sess.state) := by
  cases hcfg : s.cfg.invalid with
  | some d =>
    rw [setConfigBody_of_invalid hcfg]
    exact raised
  | none =>
    obtain ⟨act, tx, rx, host, heq⟩ : ∃ act tx rx host, s.reconfigured =
      { s with act := act, tx := tx, rx := rx, host := host } := ⟨_, _, _, _, rfl⟩
    rw [setConfigBody_of_valid hcfg, heq]
    exact success rfl

theorem samplesForBytesBody_keepsState (len : Nat) : (samplesForBytesBody len s).LeavesStateIn (· = s.sess.state) :=
  ite (fun _ => raised) fun _ => success rfl

theorem modulateBody_keepsState : (modulateBody operand s).LeavesStateIn (· = s.sess.state) :=
  ite (fun _ => raised) fun _ => ite (fun _ => raised) fun _ => success rfl

theorem demodulateBody_keepsState : (demodulateBody operand s).LeavesStateIn (· = s.sess.state) :=
  ite (fun _ => raised) fun _ => ite (fun _ => raised) fun _ => success rfl

theorem fecEncodeBody_keepsState : (fecEncodeBody operand s).LeavesStateIn (· = s.sess.state) :=
  ite (fun _ => raised) fun _ => ite (fun _ => raised) fun _ => success rfl

theorem fecDecodeBody_keepsState : (fecDecodeBody operand s).LeavesStateIn (· = s.sess.state) :=
  ite (fun _ => raised) fun _ => ite (fun _ => raised) fun _ => by
    split
    · exact reported rfl
    · exact success rfl

theorem derivePubkeyBody_keepsState : (derivePubkeyBody operand s).LeavesStateIn (· = s.sess.state) :=
  ite (fun _ => raised) fun _ => ite (fun _ => raised) fun _ => success rfl

theorem hsReadBody_keepsState : (hsReadBody s).LeavesStateIn (· = s.sess.state) :=
  ite (fun _ => success rfl) fun _ => ite (fun _ => raised) fun _ => success rfl

theorem generateOutgoingFrameBody_keepsState : (generateOutgoingFrameBody s).LeavesStateIn (· = s.sess.state) := by
  unfold generateOutgoingFrameBody
  split
  · exact success rfl
  · exact ite (fun _ => raised) fun _ => success rfl

theorem pullSpeakerFrameBody_keepsState : (pullSpeakerFrameBody s).LeavesStateIn (· = s.sess.state) := by
  unfold pullSpeakerFrameBody
  split
  · exact success rfl
  · exact ite (fun _ => raised) fun _ => success rfl

end Still

/-! ## Bodies that move `STATE` -/

section Moving

variable (s : State) (operand : List Entry)

/-- From `Handshaking` the collaborator's answer decides: on, through or over (R273). -/
theorem hsApply_leaves (hstate : s.sess.state = .handshaking) (r : HsResult) :
    (s.hsApply r).LeavesStateIn (fun x => x = .handshaking ∨ x = .established ∨ x = .terminated) := by
  cases r with
  | cont ctx out =>
    rw [hsApply_cont]
    exact .inl hstate
  | complete keys out =>
    rw [hsApply_complete]
    exact .inr (.inl rfl)
  | fail reason => exact .inr (.inr rfl)

theorem startBody_leaves (role : Role) :
    (startBody role operand s).LeavesStateIn (fun x =>
      s.sess.state = .idle ∧ operand.length = 32 ∧ (x = .handshaking ∨ x = .established ∨ x = .terminated)) :=
  ite (fun _ => raised) fun hidle => ite (fun _ => raised) fun hlen =>
    (hsApply_leaves _ rfl _).mono fun _ hx => ⟨not_not.mp hidle, not_not.mp hlen, hx⟩

theorem hsWriteBody_leaves :
    (hsWriteBody operand s).LeavesStateIn (fun x =>
      s.sess.state = .handshaking ∧ (x = .handshaking ∨ x = .established ∨ x = .terminated)) :=
  ite (fun _ => raised) fun hstate => ite (fun _ => raised) fun _ =>
    ite (fun _ => reported ⟨not_not.mp hstate, .inr (.inr rfl)⟩) fun _ =>
      (hsApply_leaves s (not_not.mp hstate) _).mono fun _ hx => ⟨not_not.mp hstate, hx⟩

theorem initializeBody_leaves :
    (initializeBody operand s).LeavesStateIn (fun x => operand.length = 32 ∧ x = .idle) :=
  ite (fun _ => raised) fun hlen => success ⟨not_not.mp hlen, rfl⟩

theorem tickBody_leaves :
    (tickBody s).LeavesStateIn (fun x => x = s.sess.state ∨ (s.sess.state = .handshaking ∧ x = .terminated)) :=
  ite (fun hticking => ite (fun _ => reported (.inr ⟨hticking.1, rfl⟩)) fun _ => success (.inl rfl))
    fun _ => success (.inl rfl)

theorem stopBody_leaves : (stopBody s).LeavesStateIn (· = .terminated) :=
  ite (fun hstate => success hstate) fun _ => success rfl

/-- A frame is sent, or its encryption ends the session (R320). -/
theorem txFrame_leaves (type : Byte) (payload : List Byte) :
    (s.txFrame type payload).LeavesStateIn (fun x => x = s.sess.state ∨ x = .terminated) :=
  ite (fun _ => raised) fun _ => ite (fun _ => raised) fun _ => ite (fun _ => raised) fun _ => by
    split
    · exact reported (.inr rfl)
    · by_cases hfec : s.act.fecEn = true <;> simp only [hfec] <;> exact success (.inl rfl)

theorem deliver_state (pt : List Byte) : (s.deliver pt).sess.state = s.sess.state := by
  unfold State.deliver
  split
  · rfl
  · split
    · rfl
    · split <;> rfl

theorem decryptFrame_leaves (ct : List Byte) :
    (s.decryptFrame ct).LeavesStateIn (fun x => x = s.sess.state ∨ x = .terminated) :=
  ite (fun _ => success (.inl rfl)) fun _ => by
    split
    · exact reported (.inr rfl)
    · exact success (.inl rfl)
    · exact success (.inl (deliver_state _ _))

/-- A frame is delivered or lost, or its decryption ends the session (R325). -/
theorem decodeFrame_leaves (rb : List Byte) :
    (s.decodeFrame rb).LeavesStateIn (fun x => x = s.sess.state ∨ x = .terminated) :=
  ite (fun _ => ite (fun _ => success (.inl rfl)) fun _ => by
      split
      · exact success (.inl rfl)
      · next cnt cw _ =>
        exact (decryptFrame_leaves _ _).mono fun _ hx => by
          split at hx <;> exact hx)
    fun _ => ite (fun _ => success (.inl rfl)) fun _ => decryptFrame_leaves s rb

theorem feedMicFrameBody_leaves :
    (feedMicFrameBody operand s).LeavesStateIn
      (fun x => s.sess.state = .established ∧ (x = s.sess.state ∨ x = .terminated)) :=
  ite (fun _ => raised) fun hstate => (txFrame_leaves s _ _).mono fun _ hx => ⟨not_not.mp hstate, hx⟩

theorem sendHangupBody_leaves :
    (sendHangupBody s).LeavesStateIn (fun x => s.sess.state = .established ∧ (x = s.sess.state ∨ x = .terminated)) :=
  ite (fun _ => raised) fun hstate =>
    ((txFrame_leaves s _ _).mono fun _ hx => ⟨not_not.mp hstate, hx⟩).andThen fun _ => rfl

theorem handleIncomingFrameBody_leaves :
    (handleIncomingFrameBody operand s).LeavesStateIn
      (fun x => s.sess.state = .established ∧ (x = s.sess.state ∨ x = .terminated)) :=
  ite (fun _ => raised) fun hstate => ite (fun _ => raised) fun _ =>
    (decodeFrame_leaves _ _).mono fun _ hx => ⟨not_not.mp hstate, hx⟩

end Moving

/-! ## Every command -/

/-- `STATE` stays, or moves along a row of the table (R270). -/
def MayMove (i : Instr) (x y : SessState) : Prop := y = x ∨ sessionMove i x y = true

theorem mayMove_established {i : Instr} (hrow : sessionMove i .established .terminated = true) {x y : SessState}
    (h : x = .established ∧ (y = x ∨ y = .terminated)) : MayMove i x y := by
  obtain ⟨rfl, rfl | rfl⟩ := h
  · exact .inl rfl
  · exact .inr hrow

theorem startBody_mayMove (role : Role) (s : State) (operand : List Entry) :
    (startBody role operand s).LeavesStateIn (MayMove (startCommand role operand.length) s.sess.state) := by
  refine (startBody_leaves s operand role).mono ?_
  rintro x ⟨hidle, h32, hx⟩
  rw [h32, hidle]
  obtain rfl | rfl | rfl := hx <;> cases role <;> exact .inr rfl

theorem bodyOf_mayMove (i : Instr) {operand : List Entry} (s : State) (hlen : i.format = .LD → operand.length = i.len) :
    (bodyOf i operand s).LeavesStateIn (MayMove i s.sess.state) := by
  have still {v : Verdict} (h : v.LeavesStateIn (· = s.sess.state)) : v.LeavesStateIn (MayMove i s.sess.state) :=
    h.mono fun _ => .inl
  cases i with
  | nop => exact .inl rfl
  | setConfig => exact still (setConfigBody_keepsState s)
  | dioFlush => exact .inl rfl
  | modemReset => exact .inl rfl
  | samplesForBytes len => exact still (samplesForBytesBody_keepsState s len)
  | modulate => exact still (modulateBody_keepsState s operand)
  | demodulate => exact still (demodulateBody_keepsState s operand)
  | fecEncode => exact still (fecEncodeBody_keepsState s operand)
  | fecDecode => exact still (fecDecodeBody_keepsState s operand)
  | fecEncodedLen => exact .inl rfl
  | fecDataLen => exact .inl rfl
  | initializeSession len =>
    obtain rfl : operand.length = len := hlen rfl
    refine (initializeBody_leaves s operand).mono ?_
    rintro x ⟨h32, rfl⟩
    rw [h32]
    exact .inr rfl
  | startServer len =>
    obtain rfl : operand.length = len := hlen rfl
    exact startBody_mayMove .server s operand
  | startClient len =>
    obtain rfl : operand.length = len := hlen rfl
    exact startBody_mayMove .client s operand
  | stopSession =>
    refine (stopBody_leaves s).mono ?_
    rintro x rfl
    exact .inr rfl
  | derivePubkey => exact still (derivePubkeyBody_keepsState s operand)
  | sendHangup => exact (sendHangupBody_leaves s).mono fun _ => mayMove_established rfl
  | consumeRemoteHangup => exact .inl rfl
  | hsRead => exact still (hsReadBody_keepsState s)
  | hsWrite =>
    refine (hsWriteBody_leaves s operand).mono ?_
    rintro x ⟨hstate, hx⟩
    rw [hstate]
    obtain rfl | rfl | rfl := hx <;> exact .inr rfl
  | tick =>
    refine (tickBody_leaves s).mono ?_
    rintro x (rfl | ⟨hstate, rfl⟩)
    · exact .inl rfl
    · rw [hstate]
      exact .inr rfl
  | feedMicFrame => exact (feedMicFrameBody_leaves s operand).mono fun _ => mayMove_established rfl
  | handleIncomingFrame => exact (handleIncomingFrameBody_leaves s operand).mono fun _ => mayMove_established rfl
  | generateOutgoingFrame => exact still (generateOutgoingFrameBody_keepsState s)
  | pullSpeakerFrame => exact still (pullSpeakerFrameBody_keepsState s)

/-- Settles O16: each body moves `STATE` along its rows, and the end of the command leaves it there. -/
theorem sessionMovesOnlyAlongTheTransitionTable : Obligations.SessionMovesOnlyAlongTheTransitionTable := by
  intro i s t h
  rw [exec_eq] at h
  split at h
  · next hformat =>
    obtain ⟨-, hrun⟩ | ⟨hlen, hrun⟩ := runLD_cases i.len (bodyOf i) s
    · obtain rfl : _ = t := by simpa [hrun] using h
      exact .inl rfl
    · obtain rfl : _ = t := by simpa [hrun] using h
      exact (bodyOf_mayMove i (s.setDin []).clearResults fun _ => hlen.symm).finish (.inl rfl)
  · next hformat =>
    obtain rfl : _ = t := by simpa [runZ_eq] using h
    exact (bodyOf_mayMove i s.clearResults fun hLD => absurd hLD hformat).finish (.inl rfl)

end Sys2Proof.Machine
end

section
/-! The outbound pipeline (spec/43_session.md rule R293, spec/44_frame_pipeline.md rule R320): what `tx_frame` makes of each
checked answer of the encrypting collaborator. -/

namespace Sys2Proof.Machine

/-! ## `tx_frame` -/

/-- The state after `tx_frame` with the next keys and the ciphertext (R320). -/
def State.frameSent (s : State) (keys ct : List Byte) : State :=
  let s1 : State := { s with sess := { s.sess with keys := keys } }
  if s.act.fecEn then s1.countEncode.queueFrame (rsEncode ct) else s1.queueFrame ct

/-- What the checked answer of the encrypting collaborator makes of a frame (R320). -/
def State.frameEnd (s : State) : EncResult → Verdict
  | .ok keys ct => .success (s.frameSent keys ct)
  | .fatal => s.fatal 4

section TxFrame

variable {s : State} {type : Byte} {payload : List Byte} (hvalid : s.act.cfgValid = true)
  (hfec : s.act.fecEn = true → payload.length + 1 + s.params.aeadOverhead ≤ 223)
  (hplain : s.act.fecEn = false → payload.length + 1 + s.params.aeadOverhead ≤ 255)

include hvalid hfec hplain

/-- A frame that fits is handed to the collaborator. -/
theorem txFrame_of_fitting : s.txFrame type payload =
    s.frameEnd (encChecked s.params (payload.length + 1 + s.params.aeadOverhead)
      (xEncrypt s.params s.sess.keys (type :: payload))) := by
  have hshort : ¬(s.act.fecEn = true ∧ rsK < payload.length + 1 + s.params.aeadOverhead) :=
    fun ⟨hen, hlong⟩ => not_lt.mpr (hfec hen) hlong
  have hshort' : ¬(s.act.fecEn = false ∧ frameBytesMax < payload.length + 1 + s.params.aeadOverhead) :=
    fun ⟨hen, hlong⟩ => not_lt.mpr (hplain hen) hlong
  unfold State.txFrame
  dsimp only [List.length_cons]
  rw [if_neg (by simp [hvalid]), if_neg hshort, if_neg hshort']
  cases encChecked s.params (payload.length + 1 + s.params.aeadOverhead)
    (xEncrypt s.params s.sess.keys (type :: payload)) <;> rfl

theorem txFrame_of_ok {keys ct : List Byte}
    (henc : encChecked s.params (payload.length + 1 + s.params.aeadOverhead)
      (xEncrypt s.params s.sess.keys (type :: payload)) = .ok keys ct) :
    s.txFrame type payload = .success (s.frameSent keys ct) := by
  rw [txFrame_of_fitting hvalid hfec hplain, henc, State.frameEnd]

theorem txFrame_of_fatal
    (henc : encChecked s.params (payload.length + 1 + s.params.aeadOverhead)
      (xEncrypt s.params s.sess.keys (type :: payload)) = .fatal) : s.txFrame type payload = s.fatal 4 := by
  rw [txFrame_of_fitting hvalid hfec hplain, henc, State.frameEnd]

end TxFrame

theorem frameSent_of_fec {s : State} (hfec : s.act.fecEn = true) (keys ct : List Byte) : s.frameSent keys ct =
    ({ s with sess := { s.sess with keys := keys } } : State).countEncode.queueFrame (rsEncode ct) :=
  if_pos hfec

theorem frameSent_of_plain {s : State} (hfec : s.act.fecEn = false) (keys ct : List Byte) : s.frameSent keys ct =
    ({ s with sess := { s.sess with keys := keys } } : State).queueFrame ct :=
  if_neg (by simp [hfec])

theorem pushDropOldest_eq {α : Type} (q : List α) (e : α) (depth : Nat) :
    pushDropOldest q e depth = (if dropsOldest q depth then q.tail else q) ++ [e] := by
  by_cases h : q.length = depth <;> simp [pushDropOldest, dropsOldest, h]

theorem queueFrame_eq (s : State) (bytes : List Byte) :
    let full := dropsOldest s.queues.txq s.params.txqDepth
    s.queueFrame bytes = { s with
      host := { s.host with
        result0 := BitVec.ofNat 32 (bytes.length * 4 * s.act.sps.toNat)
        queueDrop := s.host.queueDrop || full }
      tx := (txBytes s.act bytes s.tx).1
      pipe := { s.pipe with framesTx := satInc s.pipe.framesTx }
      queues := { s.queues with
        txq := (if full then s.queues.txq.tail else s.queues.txq) ++ [(txBytes s.act bytes s.tx).2]
        txqDrops := if full then satInc s.queues.txqDrops else s.queues.txqDrops } } := by
  intro full
  rw [← txBytes_length s.act bytes s.tx, ← pushDropOldest_eq]
  rfl

/-- The statements' `frameQueued` is what a command that sent a frame ends in; `din` is what it left in `DIN`. -/
theorem frameSent_endSuccess (s : State) (din : List Entry) (keys ct : List Byte) :
    ((s.setDin din).clearResults.frameSent keys ct).endSuccess =
      frameQueued s din keys (if s.act.fecEn then rsEncode ct else ct) false := by
  rw [frameQueued, Bool.or_false]
  cases hfec : s.act.fecEn with
  | true =>
    rw [frameSent_of_fec (s := (s.setDin din).clearResults) hfec, queueFrame_eq]
    rfl
  | false =>
    rw [frameSent_of_plain (s := (s.setDin din).clearResults) hfec, queueFrame_eq]
    rfl

/-- The hangup flag is the one thing `SEND_HANGUP` adds to the frame. -/
theorem frameQueued_hangup (s : State) (din : List Entry) (keys bytes : List Byte) :
    frameQueued s din keys bytes true =
      { frameQueued s din keys bytes false with
        sess := { (frameQueued s din keys bytes false).sess with hangupLocalSent := true } } := by
  simp [frameQueued]

/-! ## `SEND_HANGUP` -/

/-- A frame with no payload fits whatever the overhead that R8 allows. -/
theorem empty_payload_fits {p : Params} (hp : p.Ok) : 0 + 1 + p.aeadOverhead ≤ 223 := by omega

theorem sendHangupBody_of_established {s : State} (hstate : s.sess.state = .established) : sendHangupBody s =
    (s.txFrame 0x01 []).andThen (fun t => { t with sess := { t.sess with hangupLocalSent := true } }) :=
  if_neg (not_not.mpr hstate)

/-- Settles O46: the frame of the one byte `0x01`, and the flag. -/
theorem sendHangupQueuesTheHangupFrame : Obligations.SendHangupQueuesTheHangupFrame := by
  intro s keys ct hstate hvalid hparams henc bytes
  have hfits := empty_payload_fits hparams
  have hsent : s.clearResults.txFrame 0x01 [] = .success (s.clearResults.frameSent keys ct) :=
    txFrame_of_ok (s := s.clearResults) (payload := []) hvalid (fun _ => hfits) (fun _ => hfits.trans (by decide))
      (by rwa [List.length_nil, Nat.zero_add])
  have hbody := sendHangupBody_of_established (s := s.clearResults) hstate
  rw [hsent] at hbody
  refine ⟨?_, Bool.or_true _⟩
  rw [exec_of_success (i := .sendHangup) nofun hbody, frameQueued_hangup,
    ← frameSent_endSuccess s s.host.din keys ct]
  rfl

/-- Settles O47: both commands hand their frame to the collaborator, and its `Fatal` is theirs. -/
theorem fatalEncryptionEndsTheSession : Obligations.FatalEncryptionEndsTheSession := by
  intro s hstate hvalid hparams
  refine ⟨fun len hlen hfec hplain henc => ?_, fun henc => ?_⟩
  · subst hlen
    have hlength := operandBytes_length s.host.din
    have hfatal : (s.setDin []).clearResults.txFrame 0x00 (operandBytes s.host.din) = (s.setDin []).clearResults.fatal 4 :=
      txFrame_of_fatal (s := (s.setDin []).clearResults) hvalid (hlength ▸ hfec) (hlength ▸ hplain) (hlength ▸ henc)
    have hbody := (feedMicFrameBody_of_established (s := (s.setDin []).clearResults) hstate).trans hfatal
    exact ⟨_, exec_of_reported_LD (i := .feedMicFrame _) rfl rfl hbody,
      endedBy_endsInError s [] s.sess (by decide) .fatal 4⟩
  · have hfits := empty_payload_fits hparams
    have hfatal : s.clearResults.txFrame 0x01 [] = s.clearResults.fatal 4 :=
      txFrame_of_fatal (s := s.clearResults) (payload := []) hvalid (fun _ => hfits) (fun _ => hfits.trans (by decide))
        (by rwa [List.length_nil, Nat.zero_add])
    have hbody := sendHangupBody_of_established (s := s.clearResults) hstate
    rw [hfatal] at hbody
    exact ⟨_, exec_of_reported (i := .sendHangup) nofun hbody,
      endedBy_endsInError s s.host.din s.sess (by decide) .fatal 4⟩

end Sys2Proof.Machine
end

section
/-! The inbound pipeline (spec/44_frame_pipeline.md rules R311, R325, R326): the fate of a received frame is built up stage by
stage, and each operation of the body is one change of it. -/

namespace Sys2Proof.Machine

/-! ## Events in order -/

theorem announced_append (s : State) (ws vs : List Word) : s.announced (ws ++ vs) = (s.announced ws).announced vs := by
  unfold State.announced
  rw [eventQueueAfter_append]

theorem announced_emit (s : State) (ws : List Word) {code : Nat} (hcode : code < 256) (arg : Nat) :
    (s.announced ws).emit code arg = s.announced (ws ++ [BitVec.ofNat 32 (arg * 256 + code)]) := by
  rw [announced_append, ← eventWord_eq arg hcode, announced_eventWord]

/-- A drop flag raised before the events is still raised after them. -/
theorem eventQueueAfter_flag (depth : Nat) (ws evq : List Word) (drops : Word) (flag raised : Bool) :
    eventQueueAfter depth ws (evq, drops, flag || raised) =
      ((eventQueueAfter depth ws (evq, drops, flag)).1, (eventQueueAfter depth ws (evq, drops, flag)).2.1,
        (eventQueueAfter depth ws (evq, drops, flag)).2.2 || raised) := by
  induction ws generalizing evq drops flag with
  | nil => rfl
  | cons w ws ih =>
    by_cases hfull : evq.length = depth
    · simpa [eventQueueAfter, hfull] using ih (evq.tail ++ [w]) (satInc drops) true
    · simpa [eventQueueAfter, hfull] using ih (evq ++ [w]) drops flag

theorem announced_pushRxq (s : State) (ws : List Word) (payload : List Byte) :
    (s.announced ws).pushRxq payload = (s.pushRxq payload).announced ws := by
  simp only [State.announced, State.pushRxq, HostIf.noteDrop, eventQueueAfter_flag]

/-! ## The fate of a frame, stage by stage -/

/-- `u` is a state inside the body of `HANDLE_INCOMING_FRAME`: if the command ended here, the frame's fate would be `f`. -/
def FateSoFar (s : State) (rx : ModemRx) (f : FrameFate) (u : State) : Prop := u.endSuccess = incomingEnd s rx f

namespace FateSoFar

variable {s u : State} {rx : ModemRx} {f : FrameFate}

theorem result1 (h : FateSoFar s rx f u) (v : Word) : FateSoFar s rx { f with result1 := v } (u.setResult1 v) :=
  congrArg (State.setResult1 · v) h

theorem result0 (h : FateSoFar s rx f u) (v : Word) : FateSoFar s rx { f with result0 := v } (u.setResult0 v) :=
  congrArg (State.setResult0 · v) h

theorem rekeyed (h : FateSoFar s rx f u) (keys : List Byte) :
    FateSoFar s rx { f with keys := keys } { u with sess := { u.sess with keys := keys } } :=
  (congrArg (fun t : State => { t with sess := { t.sess with keys := keys } }) h :)

theorem counted (h : FateSoFar s rx f u) (fec : FecStats) : FateSoFar s rx { f with fec := fec } { u with fec := fec } :=
  (congrArg (fun t : State => { t with fec := fec }) h :)

theorem emitted (h : FateSoFar s rx f u) {code : Nat} (hcode : code < 256) (arg : Nat) :
    FateSoFar s rx { f with events := f.events ++ [BitVec.ofNat 32 (arg * 256 + code)] } (u.emit code arg) :=
  (congrArg (State.emit · code arg) h).trans (announced_emit _ f.events hcode arg)

theorem lostBy (h : FateSoFar s rx f u) (hlost : f.lost = false) (reason : Nat) (v : Word) :
    FateSoFar s rx (f.asLost reason v) ((u.lost reason).setResult0 v) := by
  have hcounted : FateSoFar s rx { f with lost := true }
      { u with pipe := { u.pipe with framesLost := satInc u.pipe.framesLost } } := by
    refine (congrArg (fun t : State => { t with pipe := { t.pipe with framesLost := satInc t.pipe.framesLost } }) h).trans ?_
    rw [incomingEnd, hlost]
    rfl
  exact (hcounted.emitted (code := 6) (by decide) reason).result0 v

theorem queued (h : FateSoFar s rx f u) (hpayload : f.payload = none) (payload : List Byte) :
    FateSoFar s rx { f with payload := some payload } (u.pushRxq payload) := by
  refine (congrArg (State.pushRxq · payload) h).trans ?_
  rw [incomingEnd, announced_pushRxq, hpayload]
  simp [incomingEnd, State.pushRxq, pushDropOldest_eq, HostIf.noteDrop, countDrop, dropsOldest]

theorem hungUp (h : FateSoFar s rx f u) :
    FateSoFar s rx { f with hangup := true }
      { u with sess := { u.sess with hangupRemotePending := true, hangupRemoteLatch := true } } := by
  refine (congrArg (fun t : State => { t with
    sess := { t.sess with hangupRemotePending := true, hangupRemoteLatch := true } }) h).trans ?_
  simp [incomingEnd, State.announced]

/-- The result that the fate already has. -/
theorem result0_zero (h : FateSoFar s rx f u) (hzero : f.result0 = 0) : FateSoFar s rx f (u.setResult0 0) := by
  rw [← hzero]
  exact h.result0 f.result0

theorem params_eq (h : FateSoFar s rx f u) : u.params = s.params := (congrArg State.params h :)

theorem keys_eq (h : FateSoFar s rx f u) : u.sess.keys = f.keys := (congrArg (fun t : State => t.sess.keys) h :)

end FateSoFar

/-- The fate of a frame of which nothing is known yet. -/
def FrameFate.fresh (s : State) : FrameFate where
  result0 := 0
  result1 := 0
  keys := s.sess.keys
  fec := s.fec
  events := []
  payload := none
  hangup := false
  lost := false

/-- The state of the body once the receiver took the samples (R325). -/
def State.received (s : State) (rx : ModemRx) : State :=
  { (s.setDin []).clearResults with rx := rx, pipe := { s.pipe with framesRx := satInc s.pipe.framesRx } }

theorem received_fateSoFar (s : State) (rx : ModemRx) : FateSoFar s rx (.fresh s) (s.received rx) := by
  simp [FateSoFar, incomingEnd, FrameFate.fresh, State.received, State.endSuccess, State.clearResults, State.setDin]

/-- The command runs the codec's stage on what the realigned receiver puts out (R325). -/
theorem exec_handleIncomingFrame {s : State} {len : Nat} (hstate : s.sess.state = .established)
    (hvalid : s.act.cfgValid = true) (hlen : s.host.din.length = len) {r : ModemRx × List Byte}
    (hr : rxSamples s.act s.host.din (s.rx.realign s.act.sps) = r) :
    exec (.handleIncomingFrame len) s =
      .next (((s.received r.1).decodeFrame r.2).finish (s.setDin []).clearResults) := by
  subst hr
  have hbody : handleIncomingFrameBody s.host.din (s.setDin []).clearResults = _ :=
    (if_neg (not_not.mpr hstate)).trans (if_neg (by simp [hvalid]))
  have hexec : exec (.handleIncomingFrame len) s = runLD len handleIncomingFrameBody s := rfl
  rw [hexec, runLD_of_eq _ s _ hlen, runZ_eq, hbody]
  rfl

/-- A body that succeeds gives the frame the fate it has come to. -/
theorem next_incomingEnd {s u : State} {rx : ModemRx} {f : FrameFate} {v : Verdict} (h : FateSoFar s rx f u)
    (hv : v = .success u) (pre : State) : Host.Outcome.next (φ := Fault) (ρ := Refusal) (v.finish pre) =
      .next (incomingEnd s rx f) := by
  rw [hv]
  exact congrArg Host.Outcome.next h

/-! ## Decryption -/

section Decrypt

variable {u : State} {ct : List Byte}

theorem decryptFrame_of_short (hshort : ct.length ≤ u.params.aeadOverhead) :
    u.decryptFrame ct = .success u.lostMalformed :=
  if_pos (Nat.lt_succ_of_le hshort)

variable (hlong : u.params.aeadOverhead < ct.length)
include hlong

theorem decryptFrame_of_reject {keys : List Byte}
    (hdec : decChecked u.params ct.length (xDecrypt u.params u.sess.keys ct) = .reject keys) :
    u.decryptFrame ct = .success ((({ u with sess := { u.sess with keys := keys } } : State).lost 3).setResult0 4) := by
  rw [State.decryptFrame, if_neg (by omega), hdec]

theorem decryptFrame_of_ok {keys pt : List Byte}
    (hdec : decChecked u.params ct.length (xDecrypt u.params u.sess.keys ct) = .ok keys pt) :
    u.decryptFrame ct = .success (({ u with sess := { u.sess with keys := keys } } : State).deliver pt) := by
  rw [State.decryptFrame, if_neg (by omega), hdec]

theorem decryptFrame_of_fatal
    (hdec : decChecked u.params ct.length (xDecrypt u.params u.sess.keys ct) = .fatal) :
    u.decryptFrame ct = u.fatal 4 := by
  rw [State.decryptFrame, if_neg (by omega), hdec]

end Decrypt

section Deliver

variable (u : State) (payload : List Byte)

theorem deliver_speech : u.deliver (0x00 :: payload) = (u.pushRxq payload).setResult0 0 := rfl

theorem deliver_hangup : u.deliver (0x01 :: payload) =
    ({ u with sess := { u.sess with hangupRemotePending := true, hangupRemoteLatch := true } } : State).setResult0 1 := rfl

theorem deliver_other {type : Byte} (h0 : type ≠ 0x00) (h1 : type ≠ 0x01) :
    u.deliver (type :: payload) = u.lostMalformed :=
  (if_neg h0).trans (if_neg h1)

end Deliver

/-- The frame is on its way to decryption: nothing that decryption decides is decided. -/
structure FrameFate.Undecided (s : State) (f : FrameFate) : Prop where
  result0 : f.result0 = 0
  keys : f.keys = s.sess.keys
  payload : f.payload = none
  lost : f.lost = false

/-- An error that ends the session overwrites the `ERR` of a success. -/
theorem endedBy_endSuccess (u : State) (code : Nat) (e : CmdError) (reason : Nat) :
    u.endSuccess.endedBy code e reason = u.endedBy code e reason := rfl

/-- All of R325 from the ciphertext on. -/
theorem ciphertextDecides_of_fateSoFar {s u : State} {len : Nat} {rx : ModemRx} {f : FrameFate} {ct : List Byte}
    (hfate : FateSoFar s rx f u) (hopen : f.Undecided s)
    (hexec : exec (.handleIncomingFrame len) s = .next ((u.decryptFrame ct).finish (s.setDin []).clearResults)) :
    CiphertextDecides s len rx f ct := by
  have hparams := hfate.params_eq
  have hkeys : u.sess.keys = s.sess.keys := hfate.keys_eq.trans hopen.keys
  have hends {g : FrameFate} {t : State} (h : FateSoFar s rx g t) (ht : u.decryptFrame ct = .success t) :
      exec (.handleIncomingFrame len) s = .next (incomingEnd s rx g) := hexec.trans (next_incomingEnd h ht _)
  rw [CiphertextDecides, ← hparams, ← hkeys]
  refine ⟨fun hshort => ?short, fun hlong =>
    ⟨fun keys hdec => ?reject, fun keys type payload hdec => ?plaintext, fun hdec => ?fatal⟩⟩
  case short => exact hends (hfate.lostBy hopen.lost 1 2) (decryptFrame_of_short hshort)
  case reject => exact hends ((hfate.rekeyed keys).lostBy hopen.lost 3 4) (decryptFrame_of_reject hlong hdec)
  case plaintext =>
    have hrekeyed := hfate.rekeyed keys
    have hdelivered := decryptFrame_of_ok hlong hdec
    refine ⟨?_, ?_, fun h0 h1 => ?_⟩
    · rintro rfl
      rw [deliver_speech] at hdelivered
      exact hends ((hrekeyed.queued hopen.payload payload).result0_zero hopen.result0) hdelivered
    · rintro rfl
      rw [deliver_hangup] at hdelivered
      exact hends (hrekeyed.hungUp.result0 1) hdelivered
    · rw [deliver_other _ _ h0 h1] at hdelivered
      exact hends (hrekeyed.lostBy hopen.lost 1 2) hdelivered
  case fatal =>
    have hended : (u.decryptFrame ct).finish (s.setDin []).clearResults = (incomingEnd s rx f).endedBy 7 .fatal 4 := by
      rw [decryptFrame_of_fatal hlong hdec, ← hfate, endedBy_endSuccess]
      rfl
    exact ⟨_, hexec.trans (congrArg _ hended), endedBy_tornDown _ 7 .fatal 4, endedBy_terminatedError _ 7 .fatal 4,
      endedBy_eventAppended _ (by decide) .fatal 4, rfl, rfl, rfl, hopen.result0, rfl⟩

/-! ## Without FEC -/

section Plain

variable {u : State} {rb : List Byte} (hfec : u.act.fecEn = false)
include hfec

theorem decodeFrame_of_plain (hlen : rb.length ≤ 255) : u.decodeFrame rb = u.decryptFrame rb :=
  (if_neg (by simp [hfec])).trans (if_neg (not_lt.mpr hlen))

theorem decodeFrame_of_plain_long (hlen : 255 < rb.length) : u.decodeFrame rb = .success u.lostMalformed :=
  (if_neg (by simp [hfec])).trans (if_pos hlen)

end Plain

/-- Settles O49: too many bytes are lost, else the bytes are the ciphertext. -/
theorem incomingFrameIsDeliveredByItsTypeByte : Obligations.IncomingFrameIsDeliveredByItsTypeByte := by
  intro s len hstate hvalid hfec hlen r fate
  have hfate : FateSoFar s r.1 fate (s.received r.1) := received_fateSoFar s r.1
  have hexec := exec_handleIncomingFrame hstate hvalid hlen (r := r) rfl
  refine ⟨fun hlong => ?_, fun hfits => ?_⟩
  · exact hexec.trans (next_incomingEnd (hfate.lostBy rfl 1 2) (decodeFrame_of_plain_long hfec hlong) _)
  · have hdecode : (s.received r.1).decodeFrame r.2 = (s.received r.1).decryptFrame r.2 := decodeFrame_of_plain hfec hfits
    rw [hdecode] at hexec
    exact ciphertextDecides_of_fateSoFar hfate ⟨rfl, rfl, rfl, rfl⟩ hexec

/-! ## With FEC -/

/-- The corrections are counted, returned, and announced if there are any (R325). -/
def State.corrected (u : State) (cnt : Nat) : State :=
  let s1 := (u.countDecode.countCorrected cnt).setResult1 (resultWord cnt)
  if 0 < cnt then s1.emit 5 cnt else s1

theorem frame_length_legal {rb : List Byte} (hmin : 32 ≤ rb.length) (hmax : rb.length ≤ 255) :
    ¬(rb.length < rsPar ∨ rsN < rb.length) := not_or.mpr ⟨not_lt.mpr hmin, not_lt.mpr hmax⟩

section Coded

variable {u : State} {rb : List Byte} (hfec : u.act.fecEn = true)
include hfec

theorem decodeFrame_of_length (hlen : rb.length < 32 ∨ 255 < rb.length) : u.decodeFrame rb = .success u.lostMalformed :=
  (if_pos hfec).trans (if_pos hlen)

variable (hmin : 32 ≤ rb.length) (hmax : rb.length ≤ 255)
include hmin hmax

theorem decodeFrame_of_uncorrectable (hdec : rsDecode rb = .uncorrectable) :
    u.decodeFrame rb = .success ((u.countDecode.countUncorrectable.lost 2).setResult0 3) := by
  rw [State.decodeFrame, if_pos hfec, if_neg (frame_length_legal hmin hmax), hdec]

theorem decodeFrame_of_corrected {cnt : Nat} {cw : List Byte} (hdec : rsDecode rb = .corrected cnt cw) :
    u.decodeFrame rb = (u.corrected cnt).decryptFrame (cw.take (rb.length - 32)) := by
  rw [State.decodeFrame, if_pos hfec, if_neg (frame_length_legal hmin hmax), hdec]
  rfl

end Coded

/-- What a correction of `cnt` bytes makes of the fate of a fresh frame. -/
theorem corrected_fateSoFar {s u : State} {rx : ModemRx} (h : FateSoFar s rx (.fresh s) u) (cnt : Nat) :
    FateSoFar s rx { FrameFate.fresh s with
      result1 := BitVec.ofNat 32 cnt
      fec := { s.fec with
        decodes := satInc s.fec.decodes
        clean := if cnt = 0 then satInc s.fec.clean else s.fec.clean
        corrected := satInc s.fec.corrected cnt }
      events := if cnt = 0 then [] else [BitVec.ofNat 32 (cnt * 256 + 5)] } (u.corrected cnt) := by
  have hstats : u.fec = s.fec := (congrArg State.fec h :)
  have hcounted : FateSoFar s rx
      { FrameFate.fresh s with result1 := resultWord cnt, fec := (u.countDecode.countCorrected cnt).fec }
      ((u.countDecode.countCorrected cnt).setResult1 (resultWord cnt)) := (h.counted _).result1 _
  rw [State.countCorrected_fec, State.countDecode_fec, hstats] at hcounted
  by_cases hclean : cnt = 0
  · subst hclean
    exact hcounted
  · have hevents : (if cnt = 0 then [] else [BitVec.ofNat 32 (cnt * 256 + 5)]) =
        (FrameFate.fresh s).events ++ [BitVec.ofNat 32 (cnt * 256 + 5)] := if_neg hclean
    rw [hevents, State.corrected, if_pos (Nat.pos_of_ne_zero hclean)]
    exact hcounted.emitted (by decide) cnt

/-- Settles O50: a frame of an impossible length and one that does not decode are lost, else the corrected word's data is
the ciphertext. -/
theorem fecFrameIsCorrectedAndDeliveredOrLost : Obligations.FecFrameIsCorrectedAndDeliveredOrLost := by
  intro s len hstate hvalid hfec hlen r fate
  have hfate : FateSoFar s r.1 fate (s.received r.1) := received_fateSoFar s r.1
  have hexec := exec_handleIncomingFrame hstate hvalid hlen (r := r) rfl
  refine ⟨fun hbad => ?_, fun hmin hmax => ⟨fun hdec => ?_, fun cnt cw hdec => ?_⟩⟩
  · exact hexec.trans (next_incomingEnd (hfate.lostBy rfl 1 2) (decodeFrame_of_length hfec hbad) _)
  · have hcounted := hfate.counted (s.received r.1).countDecode.countUncorrectable.fec
    exact hexec.trans
      (next_incomingEnd (hcounted.lostBy rfl 2 3) (decodeFrame_of_uncorrectable (u := s.received r.1) hfec hmin hmax hdec) _)
  · have hdecode : (s.received r.1).decodeFrame r.2 = _ :=
      decodeFrame_of_corrected (u := s.received r.1) hfec hmin hmax hdec
    rw [hdecode] at hexec
    exact ciphertextDecides_of_fateSoFar (corrected_fateSoFar (received_fateSoFar s r.1) cnt) ⟨rfl, rfl, rfl, rfl⟩ hexec

end Sys2Proof.Machine
end

section
/-! The sizes of queued frames and payloads under every step (spec/44_frame_pipeline.md rules R313, R314, R320, R325): the
length law of the modulator turns the byte bound of a frame into the sample bound of `TXQ`. -/

namespace Sys2Proof.Machine

/-- What the bound on frames looks at: the modem, whose `ACT_SPS` it needs, and the two frame queues. -/
def State.frameView (s : State) : (ActiveCfg × ModemTx × ModemRx) × List (List Entry) × List (List Byte) :=
  (s.modemView, s.queues.txq, s.queues.rxq)

/-- A frame of at most 255 bytes is at most `255 * 4 * 4096` samples (R313). -/
theorem txBytes_length_le {act : ActiveCfg} (hsps : act.sps.toNat ≤ 4096) {bytes : List Byte} (hlen : bytes.length ≤ 255)
    (tx : ModemTx) : (txBytes act bytes tx).2.length ≤ 255 * 4 * 4096 := by
  rw [txBytes_length]
  exact Nat.mul_le_mul (Nat.mul_le_mul_right 4 hlen) hsps

theorem FrameSizes.queueFrame {s : State} (h : FrameSizes s) (hsps : s.act.sps.toNat ≤ 4096) {bytes : List Byte}
    (hlen : bytes.length ≤ 255) : FrameSizes (s.queueFrame bytes) := by
  obtain ⟨htxq, hrxq⟩ := h
  refine ⟨fun f hf => ?_, hrxq⟩
  obtain rfl | hold := mem_pushDropOldest hf
  · exact txBytes_length_le hsps hlen s.tx
  · exact htxq f hold

theorem FrameSizes.pushRxq {s : State} (h : FrameSizes s) {payload : List Byte} (hlen : payload.length ≤ 254) :
    FrameSizes (s.pushRxq payload) := by
  obtain ⟨htxq, hrxq⟩ := h
  refine ⟨htxq, fun p hp => ?_⟩
  obtain rfl | hold := mem_pushDropOldest hp
  · exact hlen
  · exact hrxq p hold

/-- Only a frame sent and a payload received add to the queues; a frame is sent under a valid configuration, whose
`ACT_SPS` R143 bounds. -/
theorem FrameSizes.edit {s t : State} (he : s.Edit t) (hmodem : ModemConsistent s) (h : FrameSizes s) : FrameSizes t := by
  cases he with
  | queueFrame bytes hvalid hlen =>
    obtain ⟨hcfg, -⟩ := hmodem hvalid
    exact h.queueFrame hcfg.spsMax hlen
  | pushRxq payload hlen => exact h.pushRxq hlen
  | dropFrames tx rx htx hrx =>
    obtain ⟨htxq, hrxq⟩ := h
    exact ⟨fun f hf => htxq f (htx.subset hf), fun p hp => hrxq p (hrx.subset hp)⟩
  | _ => exact h

/-- R67 (3) and the bounds of R313 and R314, which need it. -/
def FramesSound (s : State) : Prop := ModemConsistent s ∧ FrameSizes s

theorem framesSound_seesOnly : SeesOnly State.frameView FramesSound := by
  intro s t hview h
  obtain ⟨⟨hact, -, hrx⟩, htxq, hrxq⟩ :
      (t.act = s.act ∧ t.tx = s.tx ∧ t.rx = s.rx) ∧ t.queues.txq = s.queues.txq ∧ t.queues.rxq = s.queues.rxq := by
    simpa [State.frameView, State.modemView] using hview
  unfold FramesSound ModemConsistent FrameSizes
  rw [hact, hrx, htxq, hrxq]
  exact h

theorem framesSound_keptByParts : KeptByParts FramesSound :=
  .of_view framesSound_seesOnly (fun _ _ _ _ _ _ => rfl) (fun he h => ⟨h.1.edit he, h.2.edit he h.1⟩)
    fun _ => ⟨modemConsistent_resetWith _, frameSizes_resetWith _⟩

/-- Settles O13: a frame has at most 255 bytes when it is queued, and every byte makes `4 * ACT_SPS` samples. -/
theorem stepKeepsFrameSizes : Obligations.StepKeepsFrameSizes := fun _ _ hmodem hsizes hstep =>
  (framesSound_keptByParts.step ⟨hmodem, hsizes⟩ hstep).2

end Sys2Proof.Machine
end

section
/-! The commands on the frame queues (spec/44_frame_pipeline.md rules R320, R321, R330, R331): one frame into `TXQ`, and
the oldest out of either queue. -/

namespace Sys2Proof.Machine

/-! ## `FEED_MIC_FRAME` -/

/-- The bytes of a frame are the ciphertext, and the parity with FEC on (R320). -/
theorem frameBytes_length (fecEn : Bool) (ct : List Byte) :
    (if fecEn then rsEncode ct else ct).length = ct.length + (if fecEn then 32 else 0) := by
  cases fecEn with
  | true => exact rsEncode_length ct
  | false => rfl

/-- A ciphertext that passes the shape check of R266 has the length of the plaintext and the overhead. -/
theorem encChecked_ok_length {p : Params} {m : Nat} {r : EncResult} {keys ct : List Byte}
    (h : encChecked p m r = .ok keys ct) : ct.length = m := by
  obtain ⟨keys', ct', hok, hlen, -⟩ | hfatal := encChecked_cases p m r
  · obtain ⟨-, rfl⟩ : keys' = keys ∧ ct' = ct := by simpa [hok] using h
    exact hlen
  · rw [hfatal] at h
    cases h

/-- Settles O45: the frame goes through `tx_frame` with type byte 0 and the operand as its payload. -/
theorem feedMicFrameQueuesOneFrame : Obligations.FeedMicFrameQueuesOneFrame := by
  intro s len keys ct hstate hvalid hlen hfec hplain henc bytes
  refine ⟨?next, ?length, txBytes_length _ _ _⟩
  case length => exact (frameBytes_length s.act.fecEn ct).trans (congrArg (· + _) (encChecked_ok_length henc))
  case next =>
    subst hlen
    have hlength := operandBytes_length s.host.din
    have hsent : (s.setDin []).clearResults.txFrame 0x00 (operandBytes s.host.din) =
        .success ((s.setDin []).clearResults.frameSent keys ct) :=
      txFrame_of_ok (s := (s.setDin []).clearResults) hvalid (hlength ▸ hfec) (hlength ▸ hplain) (hlength ▸ henc)
    have hbody := (feedMicFrameBody_of_established (s := (s.setDin []).clearResults) hstate).trans hsent
    rw [exec_of_success_LD (i := .feedMicFrame _) rfl rfl hbody, frameSent_endSuccess]

/-! ## The pulls -/

section Pulls

variable {s : State}

theorem generateOutgoingFrameBody_of_empty (hempty : s.queues.txq = []) :
    generateOutgoingFrameBody s = .success s.clearResults := by
  rw [generateOutgoingFrameBody, hempty]

theorem pullSpeakerFrameBody_of_empty (hempty : s.queues.rxq = []) :
    pullSpeakerFrameBody s = .success s.clearResults := by
  rw [pullSpeakerFrameBody, hempty]

/-- The oldest frame is handed over where there is room for all of it (R330). -/
theorem generateOutgoingFrameBody_of_cons {f : List Entry} {rest : List (List Entry)} (hq : s.queues.txq = f :: rest) :
    generateOutgoingFrameBody s = if s.doutLacks f.length then .raised .capacity 0 else
      .success (((({ s with queues := { s.queues with txq := rest } } : State).pushDout f).setResult0
        (resultWord f.length)).setResult1 1) := by
  rw [generateOutgoingFrameBody, hq]

/-- The oldest payload is handed over where there is room for all of it (R331). -/
theorem pullSpeakerFrameBody_of_cons {f : List Byte} {rest : List (List Byte)} (hq : s.queues.rxq = f :: rest) :
    pullSpeakerFrameBody s = if s.doutLacks f.length then .raised .capacity 0 else
      .success (((({ s with queues := { s.queues with rxq := rest } } : State).pushDout (f.map byteEntry)).setResult0
        (resultWord f.length)).setResult1 1) := by
  rw [pullSpeakerFrameBody, hq]

end Pulls

/-- Settles O51: each pull looks at its queue and then at the room in `DOUT`. -/
theorem pullsHandOverTheOldestFrame : Obligations.PullsHandOverTheOldestFrame := by
  intro s
  refine ⟨fun hempty => ?txEmpty, fun f rest hq => ⟨fun hroom => ?txRoom, fun hlacks => ?txFull⟩,
    fun hempty => ?rxEmpty, fun f rest hq => ⟨fun hroom => ?rxRoom, fun hlacks => ?rxFull⟩⟩
  case txEmpty =>
    exact exec_of_success (i := .generateOutgoingFrame) nofun
      (generateOutgoingFrameBody_of_empty (s := s.clearResults) hempty)
  case txRoom =>
    exact exec_of_success (i := .generateOutgoingFrame) nofun
      ((generateOutgoingFrameBody_of_cons (s := s.clearResults) hq).trans (if_neg (not_lt.mpr hroom)))
  case txFull =>
    exact exec_of_raised (i := .generateOutgoingFrame) nofun
      ((generateOutgoingFrameBody_of_cons (s := s.clearResults) hq).trans (if_pos hlacks))
  case rxEmpty =>
    exact exec_of_success (i := .pullSpeakerFrame) nofun (pullSpeakerFrameBody_of_empty (s := s.clearResults) hempty)
  case rxRoom =>
    exact exec_of_success (i := .pullSpeakerFrame) nofun
      ((pullSpeakerFrameBody_of_cons (s := s.clearResults) hq).trans (if_neg (not_lt.mpr hroom)))
  case rxFull =>
    exact exec_of_raised (i := .pullSpeakerFrame) nofun
      ((pullSpeakerFrameBody_of_cons (s := s.clearResults) hq).trans (if_pos hlacks))

end Sys2Proof.Machine
end

section
/-! The account of incoming frames (spec/44_frame_pipeline.md rules R325, R326, R335): whatever the samples, a frame is
delivered, a hangup, lost and counted, or ends the session. -/

namespace Sys2Proof.Machine

/-- The receive side after the operand's samples, from a restarted window, and the bytes that came out (R325). -/
abbrev State.demodulatedFrame (s : State) : ModemRx × List Byte :=
  rxSamples s.act s.host.din (s.rx.realign s.act.sps)

/-- The command succeeded and the session goes on: all that R325 leaves alone is as before, and `FRAMES_LOST` counted the
frame exactly when `RESULT0` says that it is lost. -/
def FrameSettled (s t : State) : Prop :=
  t.host.errCode = 0 ∧ t.host.errDetail = 0 ∧ t.host.dout = s.host.dout ∧ t.host.cmdErr = s.host.cmdErr ∧
    t.tx = s.tx ∧ t.rx = s.demodulatedFrame.1 ∧
    t.queues.txq = s.queues.txq ∧ t.queues.txqDrops = s.queues.txqDrops ∧ t.fec.encodes = s.fec.encodes ∧
    t.sess = { s.sess with
      keys := t.sess.keys
      hangupRemotePending := t.sess.hangupRemotePending, hangupRemoteLatch := t.sess.hangupRemoteLatch } ∧
    ((t.host.result0.toNat ≤ 1 ∧ t.pipe.framesLost = s.pipe.framesLost) ∨
      (2 ≤ t.host.result0.toNat ∧ t.host.result0.toNat ≤ 4 ∧ t.queues.rxq = s.queues.rxq ∧
        t.pipe.framesLost = satInc s.pipe.framesLost))

/-- The frame ended the session: `FatalError(4)`, no frame lost (R275, R325). -/
def FrameFatal (s t : State) : Prop :=
  t.host.errCode = 0x14 ∧ t.host.errDetail = 4 ∧ t.host.cmdErr = true ∧ TerminatedError t 4 ∧
    t.host.result0 = 0 ∧ t.host.dout = [] ∧ t.queues.txq = [] ∧ t.queues.rxq = [] ∧
    t.queues.evq.getLast? = some 0x00000407 ∧ t.pipe.framesLost = s.pipe.framesLost

/-- What every outcome has in common, and that it is one of them (R325, R335). -/
def AccountedFor (s t : State) : Prop :=
  t.pipe.framesRx = satInc s.pipe.framesRx ∧ t.pipe.framesTx = s.pipe.framesTx ∧ t.host.din = [] ∧ t.cfg = s.cfg ∧
    t.act = s.act ∧ (FrameSettled s t ∨ FrameFatal s t)

/-- A fate in which the result says whether the frame is lost, and a lost frame queues no payload (R325, R326). -/
structure FrameFate.Balanced (s : State) (f : FrameFate) : Prop where
  encodes : f.fec.encodes = s.fec.encodes
  result : (f.result0.toNat ≤ 1 ∧ f.lost = false) ∨
    (2 ≤ f.result0.toNat ∧ f.result0.toNat ≤ 4 ∧ f.payload = none ∧ f.lost = true)

namespace FrameFate.Balanced

variable {s : State} {f : FrameFate}

theorem kept (hencodes : f.fec.encodes = s.fec.encodes) (hresult : f.result0.toNat ≤ 1) (hlost : f.lost = false) :
    f.Balanced s := ⟨hencodes, .inl ⟨hresult, hlost⟩⟩

theorem asLost (hencodes : f.fec.encodes = s.fec.encodes) (hpayload : f.payload = none) (reason : Nat) {v : Word}
    (hmin : 2 ≤ v.toNat) (hmax : v.toNat ≤ 4) : (f.asLost reason v).Balanced s :=
  ⟨hencodes, .inr ⟨hmin, hmax, hpayload, rfl⟩⟩

end FrameFate.Balanced

/-- A frame that queues no payload leaves `RXQ` as it was. -/
theorem incomingEnd_rxq (s : State) (rx : ModemRx) {f : FrameFate} (hpayload : f.payload = none) :
    (incomingEnd s rx f).queues.rxq = s.queues.rxq := by
  simp [incomingEnd, State.announced, hpayload]

theorem incomingEnd_framesLost (s : State) (rx : ModemRx) (f : FrameFate) :
    (incomingEnd s rx f).pipe.framesLost = if f.lost then satInc s.pipe.framesLost else s.pipe.framesLost := rfl

/-- A balanced fate ends in one of the outcomes that keep the session. -/
theorem incomingEnd_accountedFor {s : State} {f : FrameFate} (h : f.Balanced s) :
    AccountedFor s (incomingEnd s s.demodulatedFrame.1 f) := by
  refine ⟨rfl, rfl, rfl, rfl, rfl, .inl ⟨rfl, rfl, List.append_nil _, rfl, rfl, rfl, rfl, rfl, h.encodes, rfl, ?_⟩⟩
  rw [incomingEnd_framesLost]
  obtain ⟨hresult, hkept⟩ | ⟨hmin, hmax, hpayload, hlost⟩ := h.result
  · exact .inl ⟨hresult, if_neg (by simp [hkept])⟩
  · exact .inr ⟨hmin, hmax, incomingEnd_rxq s _ hpayload, if_pos hlost⟩

/-- An event that was just appended is the newest (R316). -/
theorem EventAppended.getLast? {s t : State} {w : Word} (h : EventAppended s t w) : t.queues.evq.getLast? = some w := by
  rw [h.evq, List.getLast?_concat]

/-- A frame that ended the session had its receipt counted and was not lost (R275, R325). -/
theorem accountedFor_of_fatal {s t : State} {rx : ModemRx} {f : FrameFate} (hkept : f.lost = false)
    (htorn : TornDown (incomingEnd s rx f) t) (hterm : TerminatedError t 4)
    (hevent : EventAppended (incomingEnd s rx f) t 0x00000407)
    (herr : t.host.errCode = 0x14 ∧ t.host.errDetail = 4 ∧ t.host.cmdErr = true) (hresult : t.host.result0 = 0) :
    AccountedFor s t := by
  obtain ⟨hdin, hdout, htxq, hrxq⟩ := htorn.fifos
  obtain ⟨hcfg, hact⟩ := htorn.configuration
  obtain ⟨-, hpipe, -⟩ := htorn.counters
  obtain ⟨hcode, hdetail, hflag⟩ := herr
  have hcount : t.pipe.framesLost = s.pipe.framesLost := by
    rw [hpipe, incomingEnd_framesLost, if_neg (by simp [hkept])]
  exact ⟨(congrArg PipeStats.framesRx hpipe :), (congrArg PipeStats.framesTx hpipe :), hdin, hcfg, hact,
    .inr ⟨hcode, hdetail, hflag, hterm, hresult, hdout, htxq, hrxq, hevent.getLast?, hcount⟩⟩

/-- From the ciphertext on, every answer of the collaborator is accounted for. -/
theorem accountedFor_of_ciphertextDecides {s : State} {len : Nat} {f : FrameFate} {ct : List Byte}
    (hopen : f.Undecided s) (hencodes : f.fec.encodes = s.fec.encodes)
    (h : CiphertextDecides s len s.demodulatedFrame.1 f ct) :
    ∃ t, exec (.handleIncomingFrame len) s = .next t ∧ AccountedFor s t := by
  have hlost (keys : List Byte) (reason : Nat) {v : Word} (hmin : 2 ≤ v.toNat) (hmax : v.toNat ≤ 4) :
      AccountedFor s (incomingEnd s s.demodulatedFrame.1 ({ f with keys := keys }.asLost reason v)) :=
    incomingEnd_accountedFor (.asLost (f := { f with keys := keys }) hencodes hopen.payload reason hmin hmax)
  obtain ⟨hshort, hlong⟩ := h
  by_cases hlen : ct.length ≤ s.params.aeadOverhead
  · exact ⟨_, hshort hlen, hlost f.keys 1 (by decide) (by decide)⟩
  · obtain ⟨hreject, hplaintext, hfatal⟩ := hlong (not_le.mp hlen)
    obtain ⟨keys, pt, hdec, hpt, -⟩ | ⟨keys, hdec, -⟩ | hdec :=
      decChecked_cases s.params ct.length (xDecrypt s.params s.sess.keys ct)
    · cases pt with
      | nil => exact absurd (by simpa using hpt.ge) hlen
      | cons type payload =>
        obtain ⟨hspeech, hhangup, hother⟩ := hplaintext keys type payload hdec
        by_cases h0 : type = 0x00
        · exact ⟨_, hspeech h0, incomingEnd_accountedFor (.kept hencodes (by simp [hopen.result0]) hopen.lost)⟩
        · by_cases h1 : type = 0x01
          · exact ⟨_, hhangup h1, incomingEnd_accountedFor (.kept hencodes (Nat.le_refl 1) hopen.lost)⟩
          · exact ⟨_, hother h0 h1, hlost keys 1 (by decide) (by decide)⟩
    · exact ⟨_, hreject keys hdec, hlost keys 3 (by decide) (by decide)⟩
    · obtain ⟨t, hexec, htorn, hterm, hevent, hcode, hdetail, hflag, hresult, -⟩ := hfatal hdec
      exact ⟨t, hexec, accountedFor_of_fatal hopen.lost htorn hterm hevent ⟨hcode, hdetail, hflag⟩ hresult⟩

/-- Settles O48: every frame is lost before decryption, or its ciphertext decides, with FEC and without. -/
theorem everyIncomingFrameIsAccountedFor : Obligations.EveryIncomingFrameIsAccountedFor := by
  intro s len hstate hvalid hlen
  show ∃ t, exec (.handleIncomingFrame len) s = .next t ∧ AccountedFor s t
  cases hfec : s.act.fecEn with
  | false =>
    obtain ⟨hmalformed, hdecides⟩ := incomingFrameIsDeliveredByItsTypeByte s len hstate hvalid hfec hlen
    by_cases hlong : 255 < s.demodulatedFrame.2.length
    · exact ⟨_, hmalformed hlong, incomingEnd_accountedFor (.asLost rfl rfl 1 (by decide) (by decide))⟩
    · exact accountedFor_of_ciphertextDecides ⟨rfl, rfl, rfl, rfl⟩ rfl (hdecides (not_lt.mp hlong))
  | true =>
    obtain ⟨hmalformed, hdecides⟩ := fecFrameIsCorrectedAndDeliveredOrLost s len hstate hvalid hfec hlen
    by_cases hbad : s.demodulatedFrame.2.length < 32 ∨ 255 < s.demodulatedFrame.2.length
    · exact ⟨_, hmalformed hbad, incomingEnd_accountedFor (.asLost rfl rfl 1 (by decide) (by decide))⟩
    · obtain ⟨hmin, hmax⟩ := not_or.mp hbad
      obtain ⟨huncorrectable, hcorrected⟩ := hdecides (not_lt.mp hmin) (not_lt.mp hmax)
      cases hdec : rsDecode s.demodulatedFrame.2 with
      | uncorrectable =>
        exact ⟨_, huncorrectable hdec, incomingEnd_accountedFor (.asLost rfl rfl 2 (by decide) (by decide))⟩
      | corrected cnt cw =>
        exact accountedFor_of_ciphertextDecides ⟨rfl, rfl, rfl, rfl⟩ rfl (hcorrected cnt cw hdec)

end Sys2Proof.Machine
end

section
/-! Errors on the operand's length, on `STATE` and on the room in `DOUT` (spec/60_exceptions.md rules R356, R358, R359): what
a command that raises them leaves behind, one equation for each body and each check that its other checks let through. -/

namespace Sys2Proof.Machine

/-! ## The wrong length: `LengthMismatch` -/

/-- Settles O52: whatever the body, it is not run. -/
theorem lengthMismatchKeepsTheOperand : Obligations.LengthMismatchKeepsTheOperand := by
  intro i s hformat hlen
  rw [exec_eq, if_pos hformat, runLD_of_ne (bodyOf i) s i.len hlen]
  rfl

/-! ## The wrong state: `SessionStateError` -/

section OtherState

variable {s : State} {operand : List Entry}

theorem startBody_of_not_idle (role : Role) (h : s.sess.state ≠ .idle) :
    startBody role operand s = .raised .sessionState s.stateByte := if_pos h

theorem hsWriteBody_of_not_handshaking (h : s.sess.state ≠ .handshaking) :
    hsWriteBody operand s = .raised .sessionState s.stateByte := if_pos h

theorem feedMicFrameBody_of_not_established (h : s.sess.state ≠ .established) :
    feedMicFrameBody operand s = .raised .sessionState s.stateByte := if_pos h

theorem handleIncomingFrameBody_of_not_established (h : s.sess.state ≠ .established) :
    handleIncomingFrameBody operand s = .raised .sessionState s.stateByte := if_pos h

theorem sendHangupBody_of_not_established (h : s.sess.state ≠ .established) :
    sendHangupBody s = .raised .sessionState s.stateByte := if_pos h

end OtherState

/-- Settles O53: neither the operand taken nor the results cleared is a change of `STATE`, which is each body's first check. -/
theorem sessionStateErrorCarriesTheState : Obligations.SessionStateErrorCarriesTheState := by
  intro s len code
  have hcode : s.stateByte = code := by
    refine congrArg (BitVec.ofNat 8) ?_
    cases s.sess.state <;> rfl
  rw [← hcode]
  refine ⟨fun hidle => ⟨?server, ?client⟩, fun hhandshaking => ?write, fun hestablished => ⟨?feed, ?incoming, ?hangup⟩⟩
  case server =>
    exact exec_of_raised_LD (i := .startServer len) (e := .sessionState) rfl rfl (startBody_of_not_idle .server hidle)
  case client =>
    exact exec_of_raised_LD (i := .startClient len) (e := .sessionState) rfl rfl (startBody_of_not_idle .client hidle)
  case write =>
    exact exec_of_raised_LD (i := .hsWrite len) (e := .sessionState) rfl rfl (hsWriteBody_of_not_handshaking hhandshaking)
  case feed =>
    exact exec_of_raised_LD (i := .feedMicFrame len) (e := .sessionState) rfl rfl
      (feedMicFrameBody_of_not_established hestablished)
  case incoming =>
    exact exec_of_raised_LD (i := .handleIncomingFrame len) (e := .sessionState) rfl rfl
      (handleIncomingFrameBody_of_not_established hestablished)
  case hangup =>
    exact exec_of_raised (i := .sendHangup) (e := .sessionState) nofun (sendHangupBody_of_not_established hestablished)

/-! ## Too little room in `DOUT`: `CapacityError` -/

section NoRoom

variable {s : State} {operand : List Entry}

theorem modulateBody_of_full (hvalid : s.act.cfgValid = true) (hlacks : s.doutLacks (operand.length * 4 * s.act.sps.toNat)) :
    modulateBody operand s = .raised .capacity 0 :=
  (if_neg (by simp [hvalid])).trans (if_pos hlacks)

theorem demodulateBody_of_full (hvalid : s.act.cfgValid = true) (hoperand : 0 < operand.length)
    (hlacks : s.doutLacks (operand.length / 4 + 1)) : demodulateBody operand s = .raised .capacity 0 :=
  (if_neg (by simp [hvalid])).trans (if_pos ⟨List.length_pos_iff.mp hoperand, hlacks⟩)

theorem fecEncodeBody_of_full (hlen : operand.length ≤ 223) (hlacks : s.doutLacks (operand.length + 32)) :
    fecEncodeBody operand s = .raised .capacity 0 :=
  (if_neg (not_lt.mpr hlen)).trans (if_pos hlacks)

theorem fecDecodeBody_of_full (hmin : 32 ≤ operand.length) (hmax : operand.length ≤ 255)
    (hlacks : s.doutLacks operand.length) : fecDecodeBody operand s = .raised .capacity 0 :=
  (if_neg (not_or.mpr ⟨not_lt.mpr hmin, not_lt.mpr hmax⟩)).trans (if_pos hlacks)

theorem derivePubkeyBody_of_full (hlen : operand.length = 32) (hlacks : s.doutLacks 32) :
    derivePubkeyBody operand s = .raised .capacity 0 :=
  (if_neg (not_not.mpr hlen)).trans (if_pos hlacks)

end NoRoom

/-- Settles O55: the room is tested after the other checks, in a state whose `DOUT` the operand's taking has not touched. -/
theorem capacityErrorChangesNothingElse : Obligations.CapacityErrorChangesNothingElse := by
  intro s len used
  refine ⟨fun hvalid hlacks => ?modulate, fun hvalid hpositive hlacks => ?demodulate, fun hlen hlacks => ?encode,
    fun hmin hmax hlacks => ?decode, fun hlen hlacks => ?derive⟩
  case modulate =>
    exact exec_of_raised_LD (i := .modulate len) (e := .capacity) rfl rfl (modulateBody_of_full hvalid hlacks)
  case demodulate =>
    exact exec_of_raised_LD (i := .demodulate len) (e := .capacity) rfl rfl
      (demodulateBody_of_full hvalid hpositive (hlacks.trans_eq (Nat.add_assoc used _ 1)))
  case encode =>
    exact exec_of_raised_LD (i := .fecEncode len) (e := .capacity) rfl rfl
      (fecEncodeBody_of_full hlen (hlacks.trans_eq (Nat.add_assoc used len 32)))
  case decode =>
    exact exec_of_raised_LD (i := .fecDecode len) (e := .capacity) rfl rfl (fecDecodeBody_of_full hmin hmax hlacks)
  case derive =>
    exact exec_of_raised_LD (i := .derivePubkey len) (e := .capacity) rfl rfl (derivePubkeyBody_of_full hlen hlacks)

end Sys2Proof.Machine
end

section
/-! The interrupt registers and the `irq` line (spec/20_memory.md rule R93, spec/60_exceptions.md rules R366 and R367):
`INT_STATUS` bit by bit, what a write clears of it, and when an enabled bit raises the line. -/

namespace Sys2Proof.Machine

/-! ## `INT_STATUS` bit by bit -/

/-- Bit `i` of `INT_STATUS` (R366). -/
def State.intBit (s : State) : Nat → Bool
  | 0 => !s.queues.evq.isEmpty
  | 1 => s.sess.hsOutValid
  | 2 => !s.queues.rxq.isEmpty
  | 3 => !s.queues.txq.isEmpty
  | 8 => s.host.cmdErr
  | 9 => s.host.dinOverflow
  | 10 => s.host.doutUnderflow
  | 11 => s.host.evUnderflow
  | 12 => s.host.cmdOverrun
  | 13 => s.host.queueDrop
  | _ => false

theorem intStatus_getLsbD (s : State) {i : Nat} (hi : i < 32) : s.intStatus.getLsbD i = s.intBit i := by
  have hevent := bit_lt_two (!s.queues.evq.isEmpty)
  have hmail := bit_lt_two s.sess.hsOutValid
  have hrx := bit_lt_two (!s.queues.rxq.isEmpty)
  have htx := bit_lt_two (!s.queues.txq.isEmpty)
  have herr := bit_lt_two s.host.cmdErr
  have hdin := bit_lt_two s.host.dinOverflow
  have hdout := bit_lt_two s.host.doutUnderflow
  have hev := bit_lt_two s.host.evUnderflow
  have hoverrun := bit_lt_two s.host.cmdOverrun
  have hdrop := bit_lt_two s.host.queueDrop
  have hnone : bit false = 0 := rfl
  have hw : s.intStatus.toNat = _ := BitVec.toNat_ofNat _ 32
  simp only [State.intLevels, HostIf.intSticky] at hw
  refine getLsbD_eq_of_div ?_
  interval_cases i <;> simp only [State.intBit] <;> omega

theorem intStatus_unused (s : State) : s.intStatus &&& 0xFFFFC0F0 = 0 := by
  have hmask : ∀ i < 32, (0xFFFFC0F0 : Word).getLsbD i = true → (4 ≤ i ∧ i < 8) ∨ (14 ≤ i ∧ i < 32) := by decide
  refine and_eq_zero_of_getLsbD fun i hi hbit => ?_
  rw [intStatus_getLsbD s hi]
  obtain ⟨hlo, hhi⟩ | ⟨hlo, hhi⟩ := hmask i hi hbit
  · interval_cases i <;> rfl
  · interval_cases i <;> rfl

/-! ## What a write of `INT_STATUS` clears -/

/-- A bit stays unless it is sticky and written 1 (R93). -/
theorem clearSticky_intBit (s : State) (v : Word) {i : Nat} (hi : i < 32) :
    ({ s with host := s.host.clearSticky v } : State).intBit i =
      (s.intBit i && !(v.getLsbD i && (0x00003F00 : Word).getLsbD i)) := by
  have hmask : ∀ i < 32, (0x00003F00 : Word).getLsbD i = decide (8 ≤ i ∧ i < 14) := by decide
  rw [hmask i hi]
  by_cases hsticky : 8 ≤ i ∧ i < 14
  · rw [decide_eq_true hsticky, Bool.and_true]
    obtain ⟨hlo, hhi⟩ := hsticky
    interval_cases i <;> rfl
  · have hkept : ({ s with host := s.host.clearSticky v } : State).intBit i = s.intBit i := by
      have hrange : i < 8 ∨ 14 ≤ i := by omega
      obtain hlo | hhi := hrange
      · interval_cases i <;> rfl
      · interval_cases i <;> rfl
    rw [decide_eq_false hsticky, Bool.and_false, Bool.not_false, Bool.and_true, hkept]

theorem clearSticky_intStatus (s : State) (v : Word) :
    ({ s with host := s.host.clearSticky v } : State).intStatus = s.intStatus &&& ~~~(v &&& 0x00003F00) := by
  refine BitVec.eq_of_getLsbD_eq fun i hi => ?_
  rw [intStatus_getLsbD _ hi, clearSticky_intBit s v hi, BitVec.getLsbD_and, BitVec.getLsbD_not, BitVec.getLsbD_and,
    intStatus_getLsbD s hi, decide_eq_true hi, Bool.true_and]

/-! ## The line -/

theorem irq_iff (s : State) :
    s.irq = true ↔ ∃ i < 32, s.intStatus.getLsbD i = true ∧ s.host.intEnable.getLsbD i = true := by
  rw [State.irq, bne_iff_ne]
  constructor
  · intro hline
    by_contra hnone
    exact hline (and_eq_zero_of_getLsbD fun i hi henabled =>
      Bool.eq_false_of_not_eq_true fun hset => hnone ⟨i, hi, hset, henabled⟩)
  · rintro ⟨i, -, hset, henabled⟩ hzero
    have hbit : (s.intStatus &&& s.host.intEnable).getLsbD i = true := by rw [BitVec.getLsbD_and, hset, henabled]; rfl
    rw [hzero] at hbit
    exact Bool.false_ne_true (BitVec.getLsbD_zero.symm.trans hbit)

/-- Settles O59: `INT_STATUS` is its bits, and a write of either register is the one update the register map gives it. -/
theorem interruptRegistersFollowTheirRules : Obligations.InterruptRegistersFollowTheirRules := by
  intro s v
  have hbit {i : Nat} (hi : i < 32) : s.intStatus.getLsbD i = s.intBit i := intStatus_getLsbD s hi
  refine ⟨?clear, serveAccess_write (by decide) (by decide) (by decide) v s, ?events, ?mail, ?rx, ?tx,
    hbit (by decide), hbit (by decide), hbit (by decide), hbit (by decide), hbit (by decide), hbit (by decide),
    intStatus_unused s, irq_iff s⟩
  case clear =>
    exact ⟨_, serveAccess_write (by decide) (by decide) (by decide) v s, clearSticky_intStatus s v, rfl⟩
  case events => rw [hbit (by decide)]; simp [State.intBit]
  case mail => exact Bool.eq_iff_iff.mp (hbit (by decide))
  case rx => rw [hbit (by decide)]; simp [State.intBit]
  case tx => rw [hbit (by decide)]; simp [State.intBit]

end Sys2Proof.Machine
end
